-- ==== Sys2Proof/Word.lean ====
section
/-! DEFINITION. Word.lean: the 32-bit word and its plainest arithmetic (spec/00_scope.md R8, R10, R13). -/

namespace Sys2Proof

/-- A 32-bit unsigned word: a Timestamp, a count, or a rate (R8; no value of the block is signed, R10). -/
abbrev Word := BitVec 32

/-- `add32(a, b) = (a + b) mod 2^32` (R13). -/
def add32 (a b : Word) : Word := a + b

/-- `sub32(a, b) = (a - b) mod 2^32`, the wrapping difference (R13). -/
def sub32 (a b : Word) : Word := a - b

/-- The sentinel: the Timestamp 0 in a history slot or in `snap_oldest` (R19). -/
def sentinel : Word := 0#32

/-- `0xFFFFFFFF`, the greatest 32-bit word (R116, R117). -/
def maxWord : Word := 0xFFFFFFFF#32

end Sys2Proof
end

