-- ==== Sys2Proof/Config.lean ====
section
/-! DEFINITION. Config.lean: the parameters of the build (spec/00_scope.md R7), as plain data, and the
parameters of the machine that State.reset describes. -/

namespace Sys2Proof

/-- The parameters of R7. None of them is state and none changes after reset (R7, R39); the model carries
them in State because exec's form gives them no other place. DESIGN CHOICE, safe: log 1. -/
structure Config where
  /-- `N`, the capacity of the pulse history in slots. -/
  n : Nat
  /-- `DIGITS`, the number of cascaded 8-bit registers. -/
  digits : Nat
  /-- `INCREMENT`, added to the counter at each timer firing. -/
  increment : Word
  /-- `MAX_STALENESS`, the greatest age at which a recorded pulse still counts, in Timestamp units. -/
  maxStaleness : Word
  /-- `LATCH_CLEARS_COUNT`: whether the explicit latch resets the shifted-bit counter. -/
  latchClearsCount : Bool
  /-- `T_SU_RISE`, in an unstated unit of time (DESIGN CHOICE, safe: log 12). -/
  tSuRise : Nat
  /-- `T_SU_FALL`. -/
  tSuFall : Nat
  /-- `T_CKH_MIN`. -/
  tCkhMin : Nat
  /-- `T_LAT_MIN`. -/
  tLatMin : Nat
deriving DecidableEq, Repr

/-- `L = 8 * DIGITS`, the length of the bit array and of the mirror (R7). -/
def Config.l (c : Config) : Nat := 8 * c.digits

/-- `CMD_W = 4 + max(96, L)`, the width of a command word (R73). -/
def Config.cmdWidth (c : Config) : Nat := 4 + max 96 c.l

/-- `T_CKH_REM = T_CKH_MIN - T_SU_FALL` when that is positive and 0 otherwise (R124). -/
def Config.tCkhRem (c : Config) : Nat := c.tCkhMin - c.tSuFall

/-- The OPEN parameter `INCREMENT`, less one, so that its legal range 1 .. 2^32 - 1 is the type's (R7).
No body: nothing can be proved of its value. DESIGN CHOICE, safe: log 3. -/
opaque Config.openIncrementLessOne : Fin 4294967295

/-- The OPEN parameter `MAX_STALENESS`, any of 0 .. 2^32 - 1 (R7). No body. DESIGN CHOICE, safe: log 3. -/
opaque Config.openMaxStaleness : Word

/-- The OPEN parameter `LATCH_CLEARS_COUNT` (R7, R127). No body. DESIGN CHOICE, safe: log 3. -/
opaque Config.openLatchClearsCount : Bool

/-- The OPEN duration `T_SU_RISE` (R7, R124). No body. DESIGN CHOICE, safe: log 3. -/
opaque Config.openTSuRise : Nat

/-- The OPEN duration `T_SU_FALL` (R7, R124). No body. DESIGN CHOICE, safe: log 3. -/
opaque Config.openTSuFall : Nat

/-- The OPEN duration `T_CKH_MIN` (R7, R124). No body. DESIGN CHOICE, safe: log 3. -/
opaque Config.openTCkhMin : Nat

/-- The OPEN duration `T_LAT_MIN` (R7, R124). No body. DESIGN CHOICE, safe: log 3. -/
opaque Config.openTLatMin : Nat

/-- The parameters of the machine that State.reset describes: the defaults of R7 where it has one
(N = 64, DIGITS = 4; DESIGN CHOICE, unsafe for a claim that leans on 64 or 4: log 2), and a constant
without a body for every OPEN parameter. -/
def Config.machine : Config where
  n := 64
  digits := 4
  increment := BitVec.ofNat 32 (Config.openIncrementLessOne.val + 1)
  maxStaleness := Config.openMaxStaleness
  latchClearsCount := Config.openLatchClearsCount
  tSuRise := Config.openTSuRise
  tSuFall := Config.openTSuFall
  tCkhMin := Config.openTCkhMin
  tLatMin := Config.openTLatMin

end Sys2Proof
end

