-- ==== Sys2Proof/Machine/State.lean ====
section
/-! DEFINITION. Machine/State.lean: the state of the block (spec/10_state.md), the observations it leaves
(spec/00_scope.md R15, R39), the inputs still to come, and the state after reset (R42, R160). -/

namespace Sys2Proof.Machine

/-- Why the machine stops with a fault: no reason exists. "The block raises no synchronous exception" (R140),
and no behaviour of the spec has the treatment fault or stuck (93_implementation_defined.md). Nothing raises
one, and that is safe: every operation is total (R148). -/
inductive Fault where
deriving DecidableEq, Repr

/-- Why an instruction has no meaning. -/
inductive Refusal where
  /-- Raised by an arm of exec for an instruction that has no meaning yet. Safe. No arm raises it. -/
  | notModelled (mnemonic : String)
deriving DecidableEq, Repr

/-- The three output pins (R121). -/
inductive Pin where
  /-- `SER`, the serial data. -/
  | ser
  /-- `SCK`, the shift clock. -/
  | sck
  /-- `LAT`, the latch. -/
  | lat
deriving DecidableEq, Repr

/-- An event of the pin trace `W` (R15). `wait t` says that at least the duration t passes before the next
event; it sets no upper bound. -/
inductive PinEvent where
  | set (p : Pin) (v : Bool)
  | wait (t : Nat)
deriving DecidableEq, Repr

/-- The response word of a command, field by field (R76). -/
structure Response where
  r0 : Word
  r1 : Word
  err : Bool
deriving DecidableEq, Repr

/-- What the agents present in one clock cycle: the reset input, the event strobes `ev[1:0]` (R70), and the
command word accepted in that cycle, if any (R71). The handshake signals are left out as R71 allows: log 9. -/
structure Cycle where
  rst : Bool
  ev : BitVec 2
  cmd : Option Nat
deriving DecidableEq, Repr

/-- The state. The twelve fields from `cnt` to `lat` are the block's, R20's table row by row; `cfg`, `trace`,
`responses` and `inputs` are the model's own (DESIGN CHOICE, safe: logs 1, 4, 5). -/
structure State where
  /-- The parameters of the build (R7, R39); no step changes them. -/
  cfg : Config
  /-- `cnt`, the Timestamp counter (R21). -/
  cnt : Word
  /-- `armed` (R22). -/
  armed : Bool
  /-- `hist[0 .. N-1]`, physical slots (R23). -/
  hist : List Word
  /-- `head`, the index of the oldest slot (R24). -/
  head : Nat
  /-- `snap_oldest` (R27). -/
  snapOldest : Word
  /-- `snap_count` (R27). -/
  snapCount : Word
  /-- `mirror[0 .. L-1]` (R29). -/
  mirror : List Bool
  /-- `shifted`, the shifted-bit counter (R30). -/
  shifted : Nat
  /-- `is_latched` (R32). -/
  isLatched : Bool
  /-- The level of the pin SER (R33). -/
  ser : Bool
  /-- The level of the pin SCK (R33). -/
  sck : Bool
  /-- The level of the pin LAT (R33). -/
  lat : Bool
  /-- The pin trace `W`, oldest event first (R15). -/
  trace : List PinEvent
  /-- The responses returned to the HOST, oldest first (R76). -/
  responses : List Response
  /-- The port cycles still to come, next one first (R16, R70, R71). -/
  inputs : List Cycle
deriving DecidableEq, Repr

/-- The state after reset of the block built with the parameters `cfg`: R42's table row by row; reset emits
no pin event (R160). No input is waiting and no response was returned: logs 4 and 5. -/
def State.resetWith (cfg : Config) : State where
  cfg := cfg
  cnt := 0#32
  armed := false
  hist := List.replicate cfg.n sentinel
  head := 0
  snapOldest := 0#32
  snapCount := 0#32
  mirror := List.replicate cfg.l false
  shifted := 0
  isLatched := false
  ser := false
  sck := false
  lat := true
  trace := []
  responses := []
  inputs := []

/-- The machine right after reset, with the parameters of Config.machine. -/
def State.reset : State := State.resetWith Config.machine

end Sys2Proof.Machine
end

