-- ==== Sys2Proof/Machine/Ops.lean ====
section
/-! DEFINITION. Machine/Ops.lean: the named operations over the fields, the two memories, the pins and the
ports. Every write of a field goes through one of them. -/

namespace Sys2Proof.Machine

/-! Updates of single fields (`name <- value`, spec/00_scope.md R14). -/

/-- `cnt <- v`. -/
def State.setCnt (s : State) (v : Word) : State := { s with cnt := v }

/-- `armed <- v`. -/
def State.setArmed (s : State) (v : Bool) : State := { s with armed := v }

/-- The whole of HIST, and `head`. -/
def State.setHist (s : State) (h : List Word) (i : Nat) : State := { s with hist := h, head := i }

/-- The stored snapshot: both fields are always written together (R27). -/
def State.setSnapshot (s : State) (p : Word × Word) : State :=
  { s with snapOldest := p.1, snapCount := p.2 }

/-- The whole of MIRROR. -/
def State.setMirror (s : State) (m : List Bool) : State := { s with mirror := m }

/-- `shifted <- k`. -/
def State.setShifted (s : State) (k : Nat) : State := { s with shifted := k }

/-- `is_latched <- v`. -/
def State.setLatched (s : State) (v : Bool) : State := { s with isLatched := v }

/-- The level of a pin. -/
def State.setPin (s : State) (p : Pin) (v : Bool) : State :=
  match p with
  | .ser => { s with ser := v }
  | .sck => { s with sck := v }
  | .lat => { s with lat := v }

/-- One event at the end of the pin trace `W`. -/
def State.emit (s : State) (e : PinEvent) : State := { s with trace := s.trace ++ [e] }

/-- The response of a command, at the end of the responses (R71, R76: exactly one per command). -/
def State.respond (s : State) (r : Response) : State := { s with responses := s.responses ++ [r] }

/-- The inputs still to come. -/
def State.setInputs (s : State) (cs : List Cycle) : State := { s with inputs := cs }

/-! The memory HIST: N words of 32 bits, each read and written whole (R50, R51). -/

/-- HIST holds exactly N words (R23): the one form of that memory. -/
def Memory.wf (n : Nat) (h : List Word) : Bool := h.length == n

/-- HIST cleared to all-sentinel (R101). -/
def histClear (n : Nat) : List Word := List.replicate n sentinel

/-- `MemRead(HIST:i, 32)` (R14). An index of N or more never arises (R53). -/
def histRead (h : List Word) (i : Nat) : Word := h.getD i sentinel

/-- `MemWrite(HIST:i, 32, v)` (R14). -/
def histWrite (h : List Word) (i : Nat) (v : Word) : List Word := h.set i v

/-- The logical view: `H[k] = hist[(head + k) mod N]`, k = 0 .. N-1, oldest first (R26). -/
def histView (n : Nat) (h : List Word) (head : Nat) : List Word :=
  (List.range n).map fun k => histRead h ((head + k) % n)

/-- The logical view of a state's history (R26). -/
def State.view (s : State) : List Word := histView s.cfg.n s.hist s.head

/-- An insertion: `hist[head] <- c`, then `head <- (head + 1) mod N` (R24). -/
def State.insert (s : State) (c : Word) : State :=
  s.setHist (histWrite s.hist s.head c) ((s.head + 1) % s.cfg.n)

/-! The memory MIRROR: L bits (R50). -/

/-- MIRROR holds exactly L bits (R29). -/
def Memory.mirrorWf (l : Nat) (m : List Bool) : Bool := m.length == l

/-- `ROT_IN(m, b)`: b becomes element 0, every other element moves one place up, the last is dropped (R128). -/
def rotIn (m : List Bool) (b : Bool) : List Bool := (b :: m).dropLast

/-! The pins (R15). -/

/-- `drive(P, v)`: the level of the pin and its event in `W`. -/
def State.drive (s : State) (p : Pin) (v : Bool) : State := (s.setPin p v).emit (.set p v)

/-- `wait(T)`: its event in `W`. -/
def State.hold (s : State) (t : Nat) : State := s.emit (.wait t)

/-! The responses (R76). -/

/-- The response of a legal command. -/
def State.answer (s : State) (r0 r1 : Word) : State := s.respond { r0 := r0, r1 := r1, err := false }

/-- The whole effect of a command with a reserved opcode, `Refused(op)`: the response with `ERR` = 1 and
`R0` = `R1` = 0, and nothing else (R79, R141). DEDUCED, safe: log 8. -/
def State.refuseCommand (s : State) : State := s.respond { r0 := 0#32, r1 := 0#32, err := true }

/-- The 65-bit response word: `R0 = rsp[31:0]`, `R1 = rsp[63:32]`, `ERR = rsp[64]` (R76). -/
def Response.word (r : Response) : BitVec 65 := BitVec.ofBool r.err ++ r.r1 ++ r.r0

/-! Reset as an input of the block (R42, R160; 92_eei_decisions.md D2). -/

/-- Every field of R42 takes its reset value; no pin event is emitted (R160), and what was observed before
stays observed. DEDUCED, safe: log 7. -/
def State.assertReset (s : State) : State :=
  { State.resetWith s.cfg with trace := s.trace, responses := s.responses, inputs := s.inputs }

end Sys2Proof.Machine
end

