-- ==== Sys2Proof/Machine/Flags.lean ====
section
/-! DEFINITION. Machine/Flags.lean: the two 1-bit status fields, the only flags of the block
(spec/10_state.md R34). No operation has a carry, an overflow or a condition code. -/

namespace Sys2Proof.Machine

/-- `armed` is set by CLK_INIT and cleared by nothing but reset (R22, R34). -/
def State.arm (s : State) : State := s.setArmed true

/-- `is_latched` is set by every latch pulse (R32, R123). -/
def State.markLatched (s : State) : State := s.setLatched true

/-- `is_latched` is cleared by every single-bit shift that does not end in a latch pulse (R32, R122). -/
def State.clearLatched (s : State) : State := s.setLatched false

end Sys2Proof.Machine
end

