-- ==== Sys2Proof/Machine/Clock.lean ====
section
/-! DEFINITION. Machine/Clock.lean: TICK, CLK_INIT and CLK_NOW (spec/40_clock.md). -/

namespace Sys2Proof.Machine

/-- TICK (R91): while armed, `cnt <- add32(cnt, INCREMENT)`; while not armed, no change at all. -/
def execTick (s : State) : Host.Outcome State Fault Refusal :=
  .next (if s.armed then s.setCnt (add32 s.cnt s.cfg.increment) else s)

/-- CLK_INIT (R92): `cnt <- 0`, `armed <- 1`. -/
def execClkInit (s : State) : Host.Outcome State Fault Refusal :=
  .next (((s.setCnt 0#32).arm).answer 0#32 0#32)

/-- CLK_NOW (R93): `R0` is `cnt`. -/
def execClkNow (s : State) : Host.Outcome State Fault Refusal :=
  .next (s.answer s.cnt 0#32)

end Sys2Proof.Machine
end

