-- ==== Sys2Proof/Machine/Rate.lean ====
section
/-! DEFINITION. Machine/Rate.lean: the window scan and CALC_RPM (spec/42_rate.md). -/

namespace Sys2Proof.Machine

/-- The three conditions of the scan on a slot `t` at the current timestamp `c`: `t != 0`, `t != current`,
and `(current - t) <= MAX_STALENESS` with the wrapping difference (R111). -/
def fresh (bound c t : Word) : Bool :=
  t != sentinel && t != c && decide (sub32 c t ≤ bound)

/-- `WINDOW(H, c)`, oldest slot first: the first slot that meets the conditions is the oldest of the window,
and the count is the number of slots from it to the newest, both included (R111); (0, 0) without a hit
(R112). For the slot `H[k]` of N slots the rest of the list has N - 1 - k slots. -/
def window (bound c : Word) : List Word → Word × Word
  | [] => (0#32, 0#32)
  | t :: rest => if fresh bound c t then (t, BitVec.ofNat 32 (rest.length + 1)) else window bound c rest

/-- The exact quotient of R114, product first, rounded toward zero, over the unbounded integers (R115). -/
def quotient (count dt : Word) : Nat := 60000 * count.toNat / dt.toNat

/-- The rate of R114: 0 without a valid window, `0xFFFFFFFF` for a valid window and no elapsed time (R117),
and otherwise the quotient, saturated to 32 bits (R116). The corner values are the spec's own decisions
(92_eei_decisions.md D8 to D11). -/
def rate (a b c : Word) : Word :=
  let dt := sub32 a b
  if dt = a ∨ c = 0#32 then 0#32
  else if dt = 0#32 then maxWord
  else BitVec.ofNat 32 (min (quotient c dt) maxWord.toNat)

/-- CALC_RPM (R114): `R0` is the rate of the operands; no state is read or written. -/
def execCalcRpm (a b c : Word) (s : State) : Host.Outcome State Fault Refusal :=
  .next (s.answer (rate a b c) 0#32)

end Sys2Proof.Machine
end

