-- ==== Sys2Proof/Machine/History.lean ====
section
/-! DEFINITION. Machine/History.lean: HIST_INIT, PULSE and RD_SNAP (spec/41_history.md). -/

namespace Sys2Proof.Machine

/-- HIST_INIT (R101): every slot the sentinel, `head` 0, the snapshot (0, 0). -/
def execHistInit (s : State) : Host.Outcome State Fault Refusal :=
  .next (((s.setHist (histClear s.cfg.n) 0).setSnapshot (0#32, 0#32)).answer 0#32 0#32)

/-- Lines 3 to 5 of R102: scan the buffer as it stands and store the snapshot. -/
def State.rescan (s : State) (c : Word) : State := s.setSnapshot (window s.cfg.maxStaleness c s.view)

/-- PULSE (R102): insert the counter's value, rescan the buffer, store the snapshot. -/
def execPulse (s : State) : Host.Outcome State Fault Refusal :=
  .next ((s.insert s.cnt).rescan s.cnt)

/-- RD_SNAP (R103): `R0` is `snap_oldest` and `R1` is `snap_count`, read as one pair. -/
def execRdSnap (s : State) : Host.Outcome State Fault Refusal :=
  .next (s.answer s.snapOldest s.snapCount)

end Sys2Proof.Machine
end

