-- ==== Sys2Proof/Machine/Operands.lean ====
section
/-! DEFINITION. Machine/Operands.lean: the operands as the operations use them (spec/30_encoding.md R74, R75).
`A`, `B`, `C`, `BIT` and `UM` are used as they are; only the array operand has a form of its own. -/

namespace Sys2Proof.Machine

/-- The elements `BITS[0] .. BITS[L-1]` of an array operand (R75). An operand of L elements is itself; the
format can express no other length, and for such a term the missing elements are 0 and the elements beyond L
are ignored. DESIGN CHOICE, safe: log 14. -/
def operandBits (l : Nat) (bits : List Bool) : List Bool := (List.range l).map fun j => bits.getD j false

end Sys2Proof.Machine
end

