-- ==== Sys2Proof/Machine/ShiftRegister.lean ====
section
/-! DEFINITION. Machine/ShiftRegister.lean: the serializer's procedures and SR_SHIFT, SR_SET and SR_LATCH
(spec/43_shift_register.md). Each operation is one step on the state (R61): log 9. -/

namespace Sys2Proof.Machine

/-- `LATCH_PULSE()`: drop the latch line, hold the minimum latch width, raise it; `is_latched <- 1` (R123). -/
def State.latchPulse (s : State) : State :=
  (((s.drive .lat false).hold s.cfg.tLatMin).drive .lat true).markLatched

/-- Protocol steps 1 to 5 of `SHIFT1(b)`: the pins for one bit (R122). -/
def State.clockBit (s : State) (b : Bool) : State :=
  ((((((s.drive .ser b).hold s.cfg.tSuRise).drive .sck true).hold s.cfg.tSuFall).drive .ser false).hold
    s.cfg.tCkhRem).drive .sck false

/-- Protocol step 6 of `SHIFT1(b)`: count the bit, and at the L-th latch and start the count again (R122).
The second component is the procedure's result: whether it ended with a latch pulse. -/
def State.countBit (s : State) : State × Bool :=
  if s.shifted + 1 = s.cfg.l then (s.latchPulse.setShifted 0, true)
  else ((s.setShifted (s.shifted + 1)).clearLatched, false)

/-- `SHIFT1(b)` (R122). -/
def State.shift1 (s : State) (b : Bool) : State × Bool := (s.clockBit b).countBit

/-- `SHIFT1` for each bit in turn. -/
def State.shiftAll (s : State) : List Bool → State
  | [] => s
  | b :: bs => State.shiftAll (s.shift1 b).1 bs

/-- SR_SHIFT (R125): one shift; with `UM` set and no latch, the mirror is rotated and takes the bit at the
front. -/
def execSrShift (bit um : Bool) (s : State) : Host.Outcome State Fault Refusal :=
  let r := s.shift1 bit
  .next ((if um && !r.2 then r.1.setMirror (rotIn r.1.mirror bit) else r.1).answer 0#32 0#32)

/-- SR_SET (R126): the elements are shifted out in reverse order, then the mirror takes them. -/
def execSrSet (bits : List Bool) (s : State) : Host.Outcome State Fault Refusal :=
  let elems := operandBits s.cfg.l bits
  .next (((s.shiftAll elems.reverse).setMirror elems).answer 0#32 0#32)

/-- SR_LATCH (R127): one latch pulse; the shifted-bit counter is reset only where `LATCH_CLEARS_COUNT` = 1. -/
def execSrLatch (s : State) : Host.Outcome State Fault Refusal :=
  let t := s.latchPulse
  .next ((t.setShifted (if t.cfg.latchClearsCount then 0 else t.shifted)).answer 0#32 0#32)

end Sys2Proof.Machine
end

