-- ==== Sys2Proof/Syntax.lean ====
section
/-! DEFINITION. Syntax.lean: the ten operations (spec/30_encoding.md R72), the agents and ports they belong
to (R16, R153), and their text form (R83). -/

namespace Sys2Proof

/-- The ten operations of R72, one constructor per row of spec/opcode_table.json. -/
inductive Instr where
  /-- `TICK` (R91). -/
  | tick
  /-- `PULSE` (R102). -/
  | pulse
  /-- `CLK_INIT` (R92). -/
  | clkInit
  /-- `CLK_NOW` (R93). -/
  | clkNow
  /-- `HIST_INIT` (R101). -/
  | histInit
  /-- `RD_SNAP` (R103). -/
  | rdSnap
  /-- `CALC_RPM` with `A` = current_time, `B` = oldest_time_in_window, `C` = count (R114). -/
  | calcRpm (a b c : Word)
  /-- `SR_SET` with the elements of `BITS`, element 0 first (R75, R126). -/
  | srSet (bits : List Bool)
  /-- `SR_SHIFT` with `BIT` and `UM` (R125). -/
  | srShift (bit um : Bool)
  /-- `SR_LATCH` (R127). -/
  | srLatch
deriving DecidableEq, Repr

/-- The three agents that act on the block (R16). -/
inductive Agent where
  | timer
  | sensor
  | host
deriving DecidableEq, Repr

/-- The two input interfaces (R70, R71). -/
inductive Port where
  | event
  | command
deriving DecidableEq, Repr

/-- Which agent may cause an operation (R153). -/
def Instr.agent : Instr → Agent
  | .tick => .timer
  | .pulse => .sensor
  | .clkInit => .host
  | .clkNow => .host
  | .histInit => .host
  | .rdSnap => .host
  | .calcRpm _ _ _ => .host
  | .srSet _ => .host
  | .srShift _ _ => .host
  | .srLatch => .host

/-- The port each agent drives (R153: each operation exists on one port only). -/
def Agent.port : Agent → Port
  | .timer => .event
  | .sensor => .event
  | .host => .command

/-- The port on which an operation exists (R72). -/
def Instr.port (i : Instr) : Port := i.agent.port

/-- The characters of the `sr.set` string: the elements in array order (R83). -/
def bitsText (bits : List Bool) : String :=
  String.ofList (bits.map fun b => if b then '1' else '0')

/-- One bit operand in the text form (R83). -/
def bitText (b : Bool) : String := if b then "1" else "0"

/-- The text of an operation, operands in decimal, without the result part (R83). -/
def Instr.text : Instr → String
  | .tick => "tick"
  | .pulse => "pulse"
  | .clkInit => "clk.init"
  | .clkNow => "clk.now"
  | .histInit => "hist.init"
  | .rdSnap => "snap.rd"
  | .calcRpm a b c => "rpm.calc " ++ toString a.toNat ++ ", " ++ toString b.toNat ++ ", " ++ toString c.toNat
  | .srSet bits => "sr.set \"" ++ bitsText bits ++ "\""
  | .srShift bit um => "sr.shift " ++ bitText bit ++ ", " ++ bitText um
  | .srLatch => "sr.latch"

/-- The shorthand `tick*K`: K lines `tick` (R84). -/
def tickTimes (k : Nat) : List Instr := List.replicate k .tick

end Sys2Proof
end

