-- ==== Sys2Proof/Machine/Dispatch.lean ====
section
/-! DEFINITION. Machine/Dispatch.lean: one arm per operation of spec/30_encoding.md R72. -/

namespace Sys2Proof.Machine

def exec (i : Instr) (s : State) : Host.Outcome State Fault Refusal :=
  match i with
  | .tick => Sys2Proof.Machine.execTick s
  | .pulse => Sys2Proof.Machine.execPulse s
  | .clkInit => Sys2Proof.Machine.execClkInit s
  | .clkNow => Sys2Proof.Machine.execClkNow s
  | .histInit => Sys2Proof.Machine.execHistInit s
  | .rdSnap => Sys2Proof.Machine.execRdSnap s
  | .calcRpm a b c => Sys2Proof.Machine.execCalcRpm a b c s
  | .srSet bits => Sys2Proof.Machine.execSrSet bits s
  | .srShift bit um => Sys2Proof.Machine.execSrShift bit um s
  | .srLatch => Sys2Proof.Machine.execSrLatch s

end Sys2Proof.Machine
end

