-- ==== Sys2Proof/WellFormed.lean ====
section
/-! DEFINITION. WellFormed.lean: the legal parameters (spec/00_scope.md R7) and the legal operands
(spec/30_encoding.md R73, R75). -/

namespace Sys2Proof

/-- The legal ranges of R7: 2 <= N <= 2^32 - 1, DIGITS >= 1, INCREMENT >= 1. Every other parameter is legal at
every value of its type. -/
def Config.wf (c : Config) : Bool :=
  decide (2 ≤ c.n) && decide (c.n ≤ 4294967295) && decide (1 ≤ c.digits) && decide (c.increment ≠ 0#32)

/-- The operands a command word can carry: the array of `SR_SET` has exactly L elements (R75); every other
operand is legal at every value (R74). -/
def Instr.wf (cfg : Config) : Instr → Bool
  | .tick => true
  | .pulse => true
  | .clkInit => true
  | .clkNow => true
  | .histInit => true
  | .rdSnap => true
  | .calcRpm _ _ _ => true
  | .srSet bits => bits.length == cfg.l
  | .srShift _ _ => true
  | .srLatch => true

end Sys2Proof
end

