-- ==== Sys2Proof/Decode.lean ====
section
/-! DEFINITION. Decode.lean: the words of the two ports, the decoder, and after it the encoder
(spec/30_encoding.md R70 to R82). -/

namespace Sys2Proof

/-- What stands on a port: the two event strobes `ev[1:0]` (R70), or a command word (R71), an unsigned integer
with bit 0 the least significant (R11) because its width CMD_W depends on the parameters (R73). -/
inductive PortWord where
  | event (ev : BitVec 2)
  | command (cmd : Nat)
deriving DecidableEq, Repr

/-- What the decoder answers for a command word: an operation, or `Reserved(op)` (R82). -/
inductive Decoded where
  | operation (i : Instr)
  | reserved (op : BitVec 4)
deriving DecidableEq, Repr

/-- The slice of `width` bits of `w` whose lowest bit is bit `lo` (R11). -/
def bitField (w lo width : Nat) : Nat := (w >>> lo) % 2 ^ width

/-- A 32-bit operand of format R, taken as it is: no sign extension, no scaling (R73, R74). -/
def wordField (w lo : Nat) : Word := BitVec.ofNat 32 (bitField w lo 32)

/-- The elements of the array operand of format A: element j is `cmd[4 + j]`, j = 0 .. L-1 (R75). -/
def arrayField (w l : Nat) : List Bool := (List.range l).map fun j => w.testBit (4 + j)

/-- The command-port decoder: `cmd[3:0]` alone selects the operation (R77), and the payload bits that the
format does not name are ignored (R80). Every other opcode is reserved (R79). -/
def decodeCommand (cfg : Config) (w : Nat) : Decoded :=
  match bitField w 0 4 with
  | 1 => .operation .clkInit
  | 2 => .operation .clkNow
  | 3 => .operation .histInit
  | 4 => .operation .rdSnap
  | 5 => .operation (.calcRpm (wordField w 4) (wordField w 36) (wordField w 68))
  | 6 => .operation (.srSet (arrayField w cfg.l))
  | 7 => .operation (.srShift (w.testBit 4) (w.testBit 5))
  | 8 => .operation .srLatch
  | op => .reserved (BitVec.ofNat 4 op)

/-- The event-port decoder: TICK where `ev[0]` = 1, PULSE where `ev[1]` = 1, TICK first (R70, R78, R82). -/
def decodeEvent (ev : BitVec 2) : List Instr :=
  (if ev.getLsbD 0 then [.tick] else []) ++ (if ev.getLsbD 1 then [.pulse] else [])

/-- Both decoders, on whichever port the word stands. -/
def decode (cfg : Config) : PortWord → List Decoded
  | .event ev => (decodeEvent ev).map .operation
  | .command w => [decodeCommand cfg w]

/-- The unsigned integer of a bit array: element 0 is the least significant bit (R75). -/
def bitsValue : List Bool → Nat
  | [] => 0
  | b :: bs => b.toNat + 2 * bitsValue bs

/-- The encoder: the port word of an operation, with every bit the format does not name written 0
(R73, R77, R78, R80). -/
def encode : Instr → PortWord
  | .tick => .event 1#2
  | .pulse => .event 2#2
  | .clkInit => .command 0x1
  | .clkNow => .command 0x2
  | .histInit => .command 0x3
  | .rdSnap => .command 0x4
  | .calcRpm a b c => .command (0x5 + a.toNat * 2 ^ 4 + b.toNat * 2 ^ 36 + c.toNat * 2 ^ 68)
  | .srSet bits => .command (0x6 + bitsValue bits * 2 ^ 4)
  | .srShift bit um => .command (0x7 + bit.toNat * 2 ^ 4 + um.toNat * 2 ^ 5)
  | .srLatch => .command 0x8

/-- The port on which a port word stands. -/
def PortWord.port : PortWord → Port
  | .event _ => .event
  | .command _ => .command

/-- A port word fits its port: every event word has 2 bits by its type, and a command word has CMD_W bits
(R73, R81). -/
def PortWord.fits (cfg : Config) : PortWord → Bool
  | .event _ => true
  | .command w => decide (w < 2 ^ cfg.cmdWidth)

/-- The port on which the host's table word stands. The table numbers the two ports' words alike, so the
words 1 and 2 of one byte name an event row and a command row each: they are read as the event words, and
every other word as a command word. DESIGN CHOICE, safe: log 13. -/
def tablePortWord (nbits w : Nat) : PortWord :=
  if nbits ≤ 8 ∧ (w = 1 ∨ w = 2) then .event (BitVec.ofNat 2 w) else .command w

/-- The instruction the decoder reads from a table word, with the parameters of the reset machine. -/
def decodeTableWord (nbits w : Nat) : Option Instr :=
  match decode Config.machine (tablePortWord nbits w) with
  | .operation i :: _ => some i
  | _ => none

end Sys2Proof
end

