-- ==== Sys2Proof/Machine/Fetch.lean ====
section
/-! DEFINITION. Machine/Fetch.lean: the next operation the agents present (spec/30_encoding.md R70, R71;
spec/60_exceptions.md R147). The block has no program counter and fetches no instruction from a memory (R31):
log 5. -/

namespace Sys2Proof.Machine

/-- What the ports ask for next. -/
inductive Fetched where
  /-- Nothing: no input waits, or a cycle with `ev` = 0b00 and no command (R70). -/
  | idle
  /-- The reset input is asserted (R160). -/
  | reset
  /-- An operation of R72. -/
  | operation (i : Instr)
  /-- A command with a reserved opcode (R79). -/
  | reserved (op : BitVec 4)
deriving DecidableEq, Repr

/-- What a decoded command asks for. -/
def Fetched.ofDecoded : Decoded → Fetched
  | .operation i => .operation i
  | .reserved op => .reserved op

/-- A cycle with nothing left to carry out. -/
def Cycle.isDone (c : Cycle) : Bool := c.ev == 0#2 && c.cmd == none

/-- What is left of a cycle whose first event was taken: its other event, if any, and its command. -/
def Cycle.afterEvent (c : Cycle) : Cycle := { c with ev := if c.ev.getLsbD 0 then c.ev &&& 2#2 else 0#2 }

/-- The rest of the inputs once the first event of a cycle was taken. -/
def afterEvent (c : Cycle) (rest : List Cycle) : List Cycle :=
  if c.afterEvent.isDone then rest else c.afterEvent :: rest

/-- The next thing the ports ask for, and the inputs that remain. While reset is asserted no operation is
accepted (R160). Within a cycle TICK comes first, then PULSE, then the command, each a whole step (R147). -/
def fetch (cfg : Config) : List Cycle → Fetched × List Cycle
  | [] => (.idle, [])
  | c :: rest =>
    if c.rst then (.reset, rest)
    else match decodeEvent c.ev with
      | i :: _ => (.operation i, afterEvent c rest)
      | [] => match c.cmd with
        | none => (.idle, rest)
        | some w => (Fetched.ofDecoded (decodeCommand cfg w), rest)

/-- The cycle in which one port word stands alone. -/
def Cycle.ofPortWord : PortWord → Cycle
  | .event ev => { rst := false, ev := ev, cmd := none }
  | .command w => { rst := false, ev := 0#2, cmd := some w }

end Sys2Proof.Machine
end

