-- ==== Sys2Proof/Machine/Step.lean ====
section
/-! DEFINITION. Machine/Step.lean: one step of the machine, and how a port word is placed before it. -/

namespace Sys2Proof.Machine

/-- One step: the next operation the agents present, carried out whole (spec/00_scope.md R16, R58). With no
input a step changes nothing (R70). A command with a reserved opcode is answered with `ERR` = 1 and changes
nothing else (R79, R141): log 8. -/
def step (s : State) : Host.Outcome State Fault Refusal :=
  match fetch s.cfg s.inputs with
  | (.idle, rest) => .next (s.setInputs rest)
  | (.reset, rest) => .next (s.setInputs rest).assertReset
  | (.reserved _, rest) => .next (s.setInputs rest).refuseCommand
  | (.operation i, rest) => exec i (s.setInputs rest)

/-- The state with one table word on its port, before every other input: the next step runs exactly it.
It stands for the agent that presents that word (log 5). -/
def State.withFetchWord (s : State) (nbits w : Nat) : State :=
  s.setInputs (Cycle.ofPortWord (tablePortWord nbits w) :: s.inputs)

end Sys2Proof.Machine
end

