-- ==== Sys2Proof/Machine/Chain.lean ====
section
/-! DEFINITION. Machine/Chain.lean: the reference model of the external shift-register chain on the three pins
(spec/43_shift_register.md R131). It is no part of the block and no field of State holds it (R38): a statement
about the display runs a Chain over the events of the pin trace. PRESUMED in one point, the instant of the
copy (93_implementation_defined.md U12), unsafe for a claim about that instant: log 15. -/

namespace Sys2Proof.Machine

/-- The chain: its shift stage, its output stage, and the pin levels it sees. Its contents at power-on are any
(R131, U17): a statement starts from any Chain. -/
structure Chain where
  stage : List Bool
  out : List Bool
  ser : Bool
  sck : Bool
  lat : Bool
deriving DecidableEq, Repr

/-- One bit into the stage: `stage'[0] = ser`, `stage'[j] = stage[j-1]`; the last bit falls off (R131). -/
def Chain.capture (c : Chain) : Chain := { c with stage := (c.ser :: c.stage).dropLast }

/-- The stage to the outputs (R131). -/
def Chain.copy (c : Chain) : Chain := { c with out := c.stage }

/-- One event of the trace: a rising clock edge captures, a rising latch edge copies, every other event
changes neither stage (R131). -/
def Chain.see (c : Chain) : PinEvent → Chain
  | .set .ser v => { c with ser := v }
  | .set .sck v => { (if v && !c.sck then c.capture else c) with sck := v }
  | .set .lat v => { (if v && !c.lat then c.copy else c) with lat := v }
  | .wait _ => c

/-- The chain after a stretch of the trace. -/
def Chain.run (c : Chain) (es : List PinEvent) : Chain := es.foldl Chain.see c

/-- The chain sees the levels that the block's pins have, and has as many bits as the block drives
("cascaded": one stage bit and one output bit per element of the bit array, R131). -/
def Chain.attached (c : Chain) (s : State) : Prop :=
  c.ser = s.ser ∧ c.sck = s.sck ∧ c.lat = s.lat ∧ c.stage.length = s.cfg.l ∧ c.out.length = s.cfg.l

end Sys2Proof.Machine
end

