-- ==== Sys2Proof/Machine/Shorthands.lean ====
section
/-! DEFINITION. Machine/Shorthands.lean: operations in sequence, and the shorthands of spec/30_encoding.md
R84, which expand to operations of R72 and add nothing. -/

namespace Sys2Proof.Machine

/-- The outcome of a second step after a first. -/
def andThen (r : Host.Outcome State Fault Refusal) (f : State → Host.Outcome State Fault Refusal) :
    Host.Outcome State Fault Refusal :=
  match r with
  | .next t => f t
  | .fault e => .fault e
  | .refused e => .refused e

/-- The operations of a list, carried out one after another (R59: one sequence of atomic steps). -/
def runOps : List Instr → State → Host.Outcome State Fault Refusal
  | [], s => .next s
  | i :: is, s => andThen (exec i s) (runOps is)

/-- The shorthand `at T`: how many ticks bring the counter to T, where that is a whole number (R84). -/
def ticksTo (cfg : Config) (cnt target : Word) : Option Nat :=
  let d := (sub32 target cnt).toNat
  if d % cfg.increment.toNat = 0 then some (d / cfg.increment.toNat) else none

/-- The response returned last, or a response of zeros where there is none. -/
def State.lastResponse (s : State) : Response :=
  s.responses.getLastD { r0 := 0#32, r1 := 0#32, err := false }

/-- The shorthand `rpm.now`: `snap.rd`, then `clk.now`, then `rpm.calc` on what they returned (R84). -/
def rpmNow (s : State) : Host.Outcome State Fault Refusal :=
  andThen (exec .rdSnap s) fun t =>
    andThen (exec .clkNow t) fun u =>
      exec (.calcRpm u.lastResponse.r0 t.lastResponse.r0 t.lastResponse.r1) u

end Sys2Proof.Machine
end

