-- ==== Sys2Proof/Safety.lean ====
section
/-! DEFINITION. Safety.lean: the terms in which claims are stated: the invariant of every reachable state,
the pin events of a shift and of a latch as the spec lists them, and what a sequence of operations records. -/

namespace Sys2Proof.Machine

/-- `H[N-1]`, the newest slot (R26). -/
def State.newest (s : State) : Word := s.view.getD (s.cfg.n - 1) sentinel

/-- What holds in every reachable state: legal parameters (R7); HIST of N words and `head` in range (R23, R24);
MIRROR of L bits and `shifted` in range (R29, R30); pins at their idle levels (R33); the stored snapshot is
`WINDOW(H, H[N-1])` (R104); and before CLK_INIT the counter is 0 and every pulse recorded is stamped 0, so that
HIST is all sentinel (R22, R93 case a, R161 item 1). -/
structure State.Inv (s : State) : Prop where
  config : s.cfg.wf = true
  histSize : Memory.wf s.cfg.n s.hist = true
  headRange : s.head < s.cfg.n
  mirrorSize : Memory.mirrorWf s.cfg.l s.mirror = true
  shiftedRange : s.shifted < s.cfg.l
  pinsIdle : s.ser = false ∧ s.sck = false ∧ s.lat = true
  snapshot : (s.snapOldest, s.snapCount) = window s.cfg.maxStaleness s.newest s.view
  unarmedZero : s.armed = false → s.cnt = 0#32 ∧ s.hist = histClear s.cfg.n

/-- The seven events of one single-bit shift, as R125 lists them. -/
def shiftEvents (cfg : Config) (b : Bool) : List PinEvent :=
  [.set .ser b, .wait cfg.tSuRise, .set .sck true, .wait cfg.tSuFall, .set .ser false,
    .wait cfg.tCkhRem, .set .sck false]

/-- The three events of one latch pulse, as R127 lists them. -/
def latchEvents (cfg : Config) : List PinEvent :=
  [.set .lat false, .wait cfg.tLatMin, .set .lat true]

/-- How many low bits of a command word the format of its opcode names: 4 in format Z and for a reserved
opcode, 100 in format R, 4 + L in format A, 6 in format B (R73). -/
def namedBits (cfg : Config) (op : Nat) : Nat :=
  if op = 5 then 100 else if op = 6 then 4 + cfg.l else if op = 7 then 6 else 4

/-- The condition of R111 on a slot, over the integers. -/
def isFreshSlot (bound c t : Word) : Prop :=
  t ≠ 0#32 ∧ t ≠ c ∧ (c.toNat + 2 ^ 32 - t.toNat) % 2 ^ 32 ≤ bound.toNat

/-- The timestamps that the PULSEs of a sequence of operations record, in order. -/
def pulseStamps : List Instr → State → List Word
  | [], _ => []
  | i :: is, s =>
    match exec i s with
    | .next t => (if i = .pulse then [s.cnt] else []) ++ pulseStamps is t
    | .fault _ => []
    | .refused _ => []

/-- Two states agree on the clock, the history and the rate sub-blocks (R41). -/
def sameClockSide (s t : State) : Prop :=
  s.cfg = t.cfg ∧ s.cnt = t.cnt ∧ s.armed = t.armed ∧ s.hist = t.hist ∧ s.head = t.head ∧
    s.snapOldest = t.snapOldest ∧ s.snapCount = t.snapCount

/-- Two states agree on the serializer (R41). -/
def sameSerializerSide (s t : State) : Prop :=
  s.cfg = t.cfg ∧ s.mirror = t.mirror ∧ s.shifted = t.shifted ∧ s.isLatched = t.isLatched ∧
    s.ser = t.ser ∧ s.sck = t.sck ∧ s.lat = t.lat

end Sys2Proof.Machine
end

