-- ==== Sys2Proof/Certificates/Slice0/Obligations.lean ====
section
/-! DEFINITION. Certificates/Slice0/Obligations.lean: the statements for the provers. A docstring names the
rule of spec/ that a statement formalises; where a rule carries a decision mark, the decision is the spec's own
(92_eei_decisions.md). -/

section

open Sys2Proof Sys2Proof.Machine

/-! Encodings. -/

/-- The decoder gives back every well-formed operation from the word the encoder writes for it, with every
operand at every value (30_encoding.md sections 2 and 3). -/
def Obligations.DecodeEncodeRoundTrip : Prop :=
  ∀ (cfg : Config) (i : Instr), i.wf cfg = true → decode cfg (encode i) = [.operation i]

/-- The word of a well-formed operation fits its port: a command word is below 2^CMD_W (30_encoding.md
section 2). -/
def Obligations.EncodedWordFitsItsPort : Prop :=
  ∀ (cfg : Config) (i : Instr), i.wf cfg = true → (encode i).fits cfg = true

/-- R77: the opcode is the low four bits, whatever payload `p` stands above them; the eight opcodes select the
eight commands, and every other opcode is reserved. -/
def Obligations.OpcodeMapOfCommandPort : Prop :=
  ∀ (cfg : Config) (p : Nat),
    decodeCommand cfg (16 * p + 0x1) = .operation .clkInit ∧
    decodeCommand cfg (16 * p + 0x2) = .operation .clkNow ∧
    decodeCommand cfg (16 * p + 0x3) = .operation .histInit ∧
    decodeCommand cfg (16 * p + 0x4) = .operation .rdSnap ∧
    (∃ a b c, decodeCommand cfg (16 * p + 0x5) = .operation (.calcRpm a b c)) ∧
    (∃ bits, decodeCommand cfg (16 * p + 0x6) = .operation (.srSet bits)) ∧
    (∃ bit um, decodeCommand cfg (16 * p + 0x7) = .operation (.srShift bit um)) ∧
    decodeCommand cfg (16 * p + 0x8) = .operation .srLatch ∧
    decodeCommand cfg (16 * p + 0x0) = .reserved 0x0#4 ∧
    ∀ op : BitVec 4, 9 ≤ op.toNat → decodeCommand cfg (16 * p + op.toNat) = .reserved op

/-- The operands of formats R, A and B, bit by bit: bit j of an operand is the bit of the word that the field
tables put there (30_encoding.md section 2). -/
def Obligations.OperandFieldsBitByBit : Prop :=
  ∀ (cfg : Config) (w : Nat),
    (w % 16 = 5 → ∃ a b c, decodeCommand cfg w = .operation (.calcRpm a b c) ∧
      ∀ j, j < 32 → a.getLsbD j = w.testBit (4 + j) ∧ b.getLsbD j = w.testBit (36 + j) ∧
        c.getLsbD j = w.testBit (68 + j)) ∧
    (w % 16 = 6 → ∃ bits, decodeCommand cfg w = .operation (.srSet bits) ∧ bits.length = cfg.l ∧
      ∀ j, j < cfg.l → bits[j]? = some (w.testBit (4 + j))) ∧
    (w % 16 = 7 → decodeCommand cfg w = .operation (.srShift (w.testBit 4) (w.testBit 5)))

/-- R80: two command words that differ only in bits their format does not name decode alike, and the assembler
writes those bits as 0. -/
def Obligations.UnnamedPayloadBitsAreIgnored : Prop :=
  ∀ cfg : Config,
    (∀ w w' : Nat, w % 2 ^ namedBits cfg (w % 16) = w' % 2 ^ namedBits cfg (w % 16) →
      decodeCommand cfg w = decodeCommand cfg w') ∧
    (∀ (i : Instr) (w : Nat), i.wf cfg = true → encode i = .command w → w < 2 ^ namedBits cfg (w % 16))

/-- An operation decoded from a port is one of that port's: TICK and PULSE on the event port only, the eight
commands on the command port only (60_exceptions.md section 5). -/
def Obligations.EachOperationOnItsOwnPortOnly : Prop :=
  ∀ (cfg : Config) (pw : PortWord) (i : Instr), Decoded.operation i ∈ decode cfg pw →
    i.port = pw.port ∧ (pw.port = .event ↔ i = .tick ∨ i = .pulse)

/-- R85: the worked encodings, each word decoded and each operation encoded, with L = 8. -/
def Obligations.WorkedEncodings : Prop :=
  ∀ c : Config, let cfg := { c with digits := 1 }
    (decode cfg (.command 0x1) = [.operation .clkInit] ∧ encode .clkInit = .command 0x1) ∧
    (decode cfg (.command 0x2) = [.operation .clkNow] ∧ encode .clkNow = .command 0x2) ∧
    (decode cfg (.command 0x3) = [.operation .histInit] ∧ encode .histInit = .command 0x3) ∧
    (decode cfg (.command 0x4) = [.operation .rdSnap] ∧ encode .rdSnap = .command 0x4) ∧
    (decode cfg (.command 0x50000271000003A985) = [.operation (.calcRpm 15000#32 10000#32 5#32)] ∧
      encode (.calcRpm 15000#32 10000#32 5#32) = .command 0x50000271000003A985) ∧
    (decode cfg (.command 0xD6) = [.operation (.srSet [true, false, true, true, false, false, false, false])] ∧
      encode (.srSet [true, false, true, true, false, false, false, false]) = .command 0xD6) ∧
    (decode cfg (.command 0x37) = [.operation (.srShift true true)] ∧ encode (.srShift true true) = .command 0x37) ∧
    (decode cfg (.command 0x17) = [.operation (.srShift true false)] ∧ encode (.srShift true false) = .command 0x17) ∧
    (decode cfg (.command 0x27) = [.operation (.srShift false true)] ∧ encode (.srShift false true) = .command 0x27) ∧
    (decode cfg (.command 0x8) = [.operation .srLatch] ∧ encode .srLatch = .command 0x8) ∧
    (decode cfg (.event 0b01#2) = [.operation .tick] ∧ encode .tick = .event 0b01#2) ∧
    (decode cfg (.event 0b10#2) = [.operation .pulse] ∧ encode .pulse = .event 0b10#2) ∧
    decode cfg (.event 0b11#2) = [.operation .tick, .operation .pulse]

/-! Steps, the ports and reset. -/

/-- A step runs the decoded operation: the first strobe of the next cycle, or its command where no strobe is
set, with what remains of the cycle left in the inputs. How the inputs are held is the model's choice: log 5. -/
def Obligations.StepRunsDecodedOperation : Prop :=
  ∀ (s : State) (rest : List Cycle),
    (∀ (w : Nat) (i : Instr), s.inputs = ⟨false, 0b00#2, some w⟩ :: rest →
      decodeCommand s.cfg w = .operation i → step s = exec i (s.setInputs rest)) ∧
    (∀ (ev : BitVec 2) (cmd : Option Nat) (i : Instr) (is : List Instr),
      s.inputs = ⟨false, ev, cmd⟩ :: rest → decodeEvent ev = i :: is →
      step s = exec i (s.setInputs
        (if is = [] ∧ cmd = none then rest else ⟨false, if is = [] then 0b00#2 else 0b10#2, cmd⟩ :: rest)))

/-- The encoded word of a well-formed operation, placed on its port, makes the next step run exactly that
operation. How the inputs are held is the model's choice: log 5. -/
def Obligations.EncodedOperationRunsNext : Prop :=
  ∀ (s : State) (i : Instr), i.wf s.cfg = true →
    step (s.setInputs (Cycle.ofPortWord (encode i) :: s.inputs)) = exec i s

/-- Operations presented in one clock cycle are carried out TICK first, then PULSE, then the command, each as a
whole step (60_exceptions.md section 3; how a cycle stands in the inputs is the model's choice: log 6). -/
def Obligations.SameCycleTickThenPulseThenCommand : Prop :=
  ∀ (s : State) (w : Nat) (i : Instr) (rest : List Cycle),
    s.inputs = ⟨false, 0b11#2, some w⟩ :: rest → decodeCommand s.cfg w = .operation i →
    ∃ t u, step s = .next t ∧ step t = .next u ∧
      exec .tick (s.setInputs (⟨false, 0b10#2, some w⟩ :: rest)) = .next t ∧
      exec .pulse (t.setInputs (⟨false, 0b00#2, some w⟩ :: rest)) = .next u ∧
      step u = exec i (u.setInputs rest)

/-- With the clock armed, a PULSE in the same cycle as a TICK records the counter after the increment
(60_exceptions.md section 3). How a cycle stands in the inputs, that its two operations are two steps, and what
they leave of the inputs are the model's choice: log 6. -/
def Obligations.SameCyclePulseSeesTheTick : Prop :=
  ∀ (s : State) (rest : List Cycle), s.Inv → s.armed = true → s.inputs = ⟨false, 0b11#2, none⟩ :: rest →
    ∃ t u, step s = .next t ∧ step t = .next u ∧ u.inputs = rest ∧
      u.cnt = s.cnt + s.cfg.increment ∧ u.newest = s.cnt + s.cfg.increment ∧
      histRead u.hist s.head = s.cnt + s.cfg.increment

/-- A command with a reserved opcode changes no state and emits no pin event; its response has ERR = 1 and
R0 = R1 = 0 (30_encoding.md section 4). That the step answers a next state is the model's reading: log 8. -/
def Obligations.ReservedOpcodeIsAnsweredWithErr : Prop :=
  ∀ (s : State) (w : Nat) (rest : List Cycle), s.inputs = ⟨false, 0b00#2, some w⟩ :: rest →
    (w % 16 = 0 ∨ 9 ≤ w % 16) →
    step s = .next { s with inputs := rest, responses := s.responses ++ [⟨0#32, 0#32, true⟩] }

/-- With no input waiting a step changes nothing, and a cycle with no strobe and no command is only passed over.
How the inputs are held is the model's choice: log 5. -/
def Obligations.NoInputChangesNothing : Prop :=
  ∀ (s : State) (rest : List Cycle),
    (s.inputs = [] → step s = .next s) ∧
    (s.inputs = ⟨false, 0b00#2, none⟩ :: rest → step s = .next (s.setInputs rest))

/-- A cycle with the reset input asserted accepts no operation, whatever strobes and command it holds, and puts
every field of the block at its reset value without a pin event. Reset as an input is the model's reading:
log 7. -/
def Obligations.ResetInputRestoresTheResetState : Prop :=
  ∀ (s : State) (ev : BitVec 2) (cmd : Option Nat) (rest : List Cycle), s.inputs = ⟨true, ev, cmd⟩ :: rest →
    step s = .next { State.resetWith s.cfg with trace := s.trace, responses := s.responses, inputs := rest }

/-- R42: the table of the fields after reset, row by row, for every choice of the parameters; the reset state is
the one of the machine's parameters. -/
def Obligations.ResetValuesOfEveryField : Prop :=
  (∀ cfg : Config, let s := State.resetWith cfg
    s.cnt = 0#32 ∧ s.armed = false ∧ s.hist.length = cfg.n ∧ (∀ t ∈ s.hist, t = 0#32) ∧ s.head = 0 ∧
    s.snapOldest = 0#32 ∧ s.snapCount = 0#32 ∧ s.mirror.length = cfg.l ∧ (∀ b ∈ s.mirror, b = false) ∧
    s.shifted = 0 ∧ s.isLatched = false ∧ s.ser = false ∧ s.sck = false ∧ s.lat = true ∧ s.cfg = cfg) ∧
  ∃ cfg : Config, State.reset = State.resetWith cfg

/-- The state after reset meets the invariant, for every legal choice of the parameters, and so does the reset
state of the machine. -/
def Obligations.ResetMeetsTheInvariant : Prop :=
  (∀ cfg : Config, cfg.wf = true → (State.resetWith cfg).Inv) ∧ State.reset.Inv

/-- After reset HIST_INIT changes nothing and CLK_INIT changes only `armed`, but for the response each returns
(10_state.md section 9, the sentence "Reset and the `init` operations agree"). -/
def Obligations.InitOperationsAgreeWithReset : Prop :=
  ∀ cfg : Config,
    exec .histInit (State.resetWith cfg) =
      .next { State.resetWith cfg with responses := [⟨0#32, 0#32, false⟩] } ∧
    exec .clkInit (State.resetWith cfg) =
      .next { State.resetWith cfg with armed := true, responses := [⟨0#32, 0#32, false⟩] }

/-- Every step keeps the invariant: legal parameters, memories of their sizes, `head` and `shifted` in range, pins
at their idle levels, the stored snapshot a function of the history, and an unarmed clock at 0. -/
def Obligations.EveryStepKeepsTheInvariant : Prop :=
  ∀ s t : State, s.Inv → step s = .next t → t.Inv

/-- Any sequence of operations completes from a state of the invariant and ends in one, so that every execution
that starts at reset stays within it (20_memory.md section 3). -/
def Obligations.EveryRunCompletesWithinTheInvariant : Prop :=
  ∀ (s : State) (ops : List Instr), s.Inv → ∃ t, runOps ops s = .next t ∧ t.Inv

/-- No step changes a parameter (00_scope.md section 4: none changes after reset; that they stand in State is the
model's choice: log 1). -/
def Obligations.NoStepChangesAParameter : Prop :=
  ∀ s t : State, step s = .next t → t.cfg = s.cfg

/-- No step faults and no step is refused: every operation is total on every state and every operand
(60_exceptions.md section 1). A reserved opcode is answered by a next state: log 8. -/
def Obligations.NoStepEverStops : Prop :=
  ∀ s : State, ∃ t, step s = .next t

/-! The clock. -/

/-- R91: TICK adds INCREMENT modulo 2^32 while armed, changes nothing while not armed, and touches no other
field; it is the first of the two operations of a cycle with both strobes. -/
def Obligations.TickAddsIncrementWhileArmed : Prop :=
  (∀ s : State, exec .tick s = .next { s with
      cnt := if s.armed then BitVec.ofNat 32 (s.cnt.toNat + s.cfg.increment.toNat) else s.cnt }) ∧
  decodeEvent 0b01#2 = [.tick] ∧ decodeEvent 0b11#2 = [.tick, .pulse]

/-- R92: CLK_INIT zeroes and arms the clock, whether or not it was armed, touches nothing else, and answers with
zeros; it is opcode 0x1 whatever the payload. -/
def Obligations.ClkInitZeroesAndArms : Prop :=
  ∀ (s : State) (p : Nat),
    exec .clkInit s = .next { s with
      cnt := 0#32, armed := true, responses := s.responses ++ [⟨0#32, 0#32, false⟩] } ∧
    decodeCommand s.cfg (16 * p + 0x1) = .operation .clkInit

/-- R93: CLK_NOW answers with the counter in R0 and changes no state; it is opcode 0x2 whatever the payload. -/
def Obligations.ClkNowReturnsTheCounter : Prop :=
  ∀ (s : State) (p : Nat),
    exec .clkNow s = .next { s with responses := s.responses ++ [⟨s.cnt, 0#32, false⟩] } ∧
    decodeCommand s.cfg (16 * p + 0x2) = .operation .clkNow

/-- After a CLK_INIT and any operations with no other CLK_INIT among them, the counter is the number of TICKs
among them times INCREMENT, modulo 2^32, and CLK_NOW returns it (40_clock.md, "Counting law"). -/
def Obligations.CountingLaw : Prop :=
  ∀ (s : State) (ops : List Instr), .clkInit ∉ ops →
    ∃ t, runOps (.clkInit :: ops) s = .next t ∧
      t.cnt = BitVec.ofNat 32 (ops.count .tick * s.cfg.increment.toNat) ∧
      ∃ u, exec .clkNow t = .next u ∧ u.lastResponse.r0 = t.cnt

/-- No operation disarms the clock (10_state.md section 2; a cycle with the reset input is not an operation). -/
def Obligations.NoOperationDisarmsTheClock : Prop :=
  ∀ (s : State) (ops : List Instr), s.armed = true → ∃ t, runOps ops s = .next t ∧ t.armed = true

/-- The shorthand `at T`: that many ticks bring an armed counter to T (30_encoding.md section 5). -/
def Obligations.AtShorthandReachesItsTarget : Prop :=
  ∀ (s : State) (target : Word) (k : Nat), s.armed = true → ticksTo s.cfg s.cnt target = some k →
    runOps (tickTimes k) s = .next { s with cnt := target }

/-! The history. -/

/-- R101: HIST_INIT clears every slot, `head` and the snapshot, touches nothing else, and answers with zeros; it is
opcode 0x3 whatever the payload. -/
def Obligations.HistInitClearsTheHistory : Prop :=
  ∀ (s : State) (p : Nat),
    exec .histInit s = .next { s with
      hist := List.replicate s.cfg.n 0#32, head := 0, snapOldest := 0#32, snapCount := 0#32,
      responses := s.responses ++ [⟨0#32, 0#32, false⟩] } ∧
    decodeCommand s.cfg (16 * p + 0x3) = .operation .histInit

/-- R102: PULSE stores the counter in the oldest slot, advances `head` modulo N, scans the view as it then stands
(the old view without its oldest slot, and the counter as the newest), and stores the snapshot; nothing else
changes. It does not look at `armed`. It is the strobe ev[1], and the second operation of a cycle with both. -/
def Obligations.PulseInsertsAndRescans : Prop :=
  (∀ s : State, s.hist.length = s.cfg.n → s.head < s.cfg.n →
    ∃ t, exec .pulse s = .next t ∧
      t = { s with
        hist := s.hist.set s.head s.cnt, head := (s.head + 1) % s.cfg.n,
        snapOldest := (window s.cfg.maxStaleness s.cnt (s.view.drop 1 ++ [s.cnt])).1,
        snapCount := (window s.cfg.maxStaleness s.cnt (s.view.drop 1 ++ [s.cnt])).2 } ∧
      t.view = s.view.drop 1 ++ [s.cnt]) ∧
  decodeEvent 0b10#2 = [.pulse] ∧ decodeEvent 0b11#2 = [.tick, .pulse]

/-- R103: RD_SNAP answers with the stored pair and changes no state; it is opcode 0x4 whatever the payload. -/
def Obligations.RdSnapReturnsTheStoredPair : Prop :=
  ∀ (s : State) (p : Nat),
    exec .rdSnap s = .next { s with responses := s.responses ++ [⟨s.snapOldest, s.snapCount, false⟩] } ∧
    decodeCommand s.cfg (16 * p + 0x4) = .operation .rdSnap

/-- The FIFO law: over any operations with no HIST_INIT among them, the view is the last N values of the old view
followed by the timestamps the PULSEs recorded (10_state.md section 3, "FIFO law"). -/
def Obligations.FifoLaw : Prop :=
  ∀ (s : State) (ops : List Instr), s.hist.length = s.cfg.n → s.head < s.cfg.n → .histInit ∉ ops →
    ∃ t, runOps ops s = .next t ∧
      t.view = (s.view ++ pulseStamps ops s).drop (pulseStamps ops s).length

/-- The stored snapshot stays as it is over any operations with no PULSE and no HIST_INIT among them, so that
RD_SNAP keeps returning it however long the pulses stop (20_memory.md section 2, the document's "Idempotence";
70_reset_and_hazards.md section 3, "The snapshot ages"). -/
def Obligations.SnapshotChangesOnlyWithPulseOrInit : Prop :=
  ∀ (s : State) (ops : List Instr), .pulse ∉ ops → .histInit ∉ ops →
    ∃ t, runOps ops s = .next t ∧ t.snapOldest = s.snapOldest ∧ t.snapCount = s.snapCount

/-- In every state of the invariant the stored count is at most N, never 1, and 0 exactly when the stored oldest
time is 0 (10_state.md section 4, "Invariants of the stored snapshot"). -/
def Obligations.StoredSnapshotBounds : Prop :=
  ∀ s : State, s.Inv →
    s.snapCount.toNat ≤ s.cfg.n ∧ s.snapCount ≠ 1#32 ∧ (s.snapCount = 0#32 ↔ s.snapOldest = 0#32)

/-- A PULSE before CLK_INIT stores the sentinel and no window: the view stays all sentinel and the snapshot is
(0, 0) (70_reset_and_hazards.md section 2, item 1). -/
def Obligations.PulseBeforeClkInitIsInvisible : Prop :=
  ∀ s : State, s.Inv → s.armed = false →
    ∃ t, exec .pulse s = .next t ∧ (∀ u ∈ t.view, u = 0#32) ∧ t.snapOldest = 0#32 ∧ t.snapCount = 0#32

/-! The window and the rate. -/

/-- R111, R112: the scan answers with the oldest slot that is not 0, not the current timestamp, and not older than
the bound, ages taken modulo 2^32, and counts the slots from it to the newest, both included; it answers (0, 0)
where no slot is such. -/
def Obligations.WindowStartsAtTheOldestFreshSlot : Prop :=
  (∀ (bound c : Word) (hs : List Word) (k : Nat) (t : Word),
    hs[k]? = some t → isFreshSlot bound c t →
    (∀ (j : Nat) (u : Word), j < k → hs[j]? = some u → ¬ isFreshSlot bound c u) →
    window bound c hs = (t, BitVec.ofNat 32 (hs.length - k))) ∧
  (∀ (bound c : Word) (hs : List Word), (∀ u ∈ hs, ¬ isFreshSlot bound c u) →
    window bound c hs = (0#32, 0#32))

/-- With the bound 0 no window exists; and a scan of which the newest slot is the current timestamp never counts
exactly one slot (42_rate.md, corner cases c and h of WINDOW). -/
def Obligations.WindowExtremeCases : Prop :=
  (∀ (c : Word) (hs : List Word), window 0#32 c hs = (0#32, 0#32)) ∧
  (∀ (bound c : Word) (older : List Word), older.length < 4294967295 →
    (window bound c (older ++ [c])).2 ≠ 1#32)

/-- R114: CALC_RPM over the integers: 0 where the difference equals the current time or the count is 0; the
greatest word where no time passed; the exact quotient, product first, rounded toward zero and saturated,
otherwise. It reads and writes no state, and its operands are the fields of the payload. -/
def Obligations.CalcRpmComputesTheRate : Prop :=
  (∀ (s : State) (a b c : Word), let dt := (a.toNat + 2 ^ 32 - b.toNat) % 2 ^ 32
    exec (.calcRpm a b c) s = .next { s with
      responses := s.responses ++ [⟨BitVec.ofNat 32
        (if dt = a.toNat ∨ c.toNat = 0 then 0
         else if dt = 0 then 2 ^ 32 - 1
         else min (60000 * c.toNat / dt) (2 ^ 32 - 1)), 0#32, false⟩] }) ∧
  (∀ (cfg : Config) (p : Nat), decodeCommand cfg (16 * p + 0x5) = .operation (.calcRpm
    (BitVec.ofNat 32 p) (BitVec.ofNat 32 (p / 2 ^ 32)) (BitVec.ofNat 32 (p / 2 ^ 64))))

/-- The rate is 0 for every current time where the snapshot is "no window", and where the count is 0
(42_rate.md, "Properties the document states", a). -/
def Obligations.NoWindowGivesRateZero : Prop :=
  ∀ (now oldest count : Word), rate now 0#32 count = 0#32 ∧ rate now oldest 0#32 = 0#32

/-- For a count of at most 71582 the rate is the exact quotient: saturation cannot occur (42_rate.md, "Range of
the result"). -/
def Obligations.RateIsExactUpToCount71582 : Prop :=
  ∀ (now oldest count : Word), oldest ≠ 0#32 → now ≠ oldest → count ≠ 0#32 → count.toNat ≤ 71582 →
    (rate now oldest count).toNat = 60000 * count.toNat / (now - oldest).toNat

/-- A PULSE that finds a window leaves the oldest time strictly older than the counter and within the bound, so
that the rate taken at once divides by a time that is not 0 (70_reset_and_hazards.md section 3, "Pulses within
one counter value"). -/
def Obligations.WindowOfAPulseHasElapsedTime : Prop :=
  ∀ s : State, s.Inv → ∃ t, exec .pulse s = .next t ∧
    (t.snapCount ≠ 0#32 →
      t.cnt - t.snapOldest ≠ 0#32 ∧ (t.cnt - t.snapOldest).toNat ≤ t.cfg.maxStaleness.toNat ∧
      (rate t.cnt t.snapOldest t.snapCount).toNat =
        min (60000 * t.snapCount.toNat / (t.cnt - t.snapOldest).toNat) (2 ^ 32 - 1))

/-- The shorthand `rpm.now` answers with the rate of the stored snapshot at the counter's value, after the two
reads (30_encoding.md section 5). -/
def Obligations.RpmNowReadsSnapshotThenClock : Prop :=
  ∀ s : State, rpmNow s = .next { s with responses := s.responses ++
    [⟨s.snapOldest, s.snapCount, false⟩, ⟨s.cnt, 0#32, false⟩,
      ⟨rate s.cnt s.snapOldest s.snapCount, 0#32, false⟩] }

/-! The serializer. -/

/-- R125: one shift. The seven events, the three of the latch pulse only where the count reaches L; the count, the
status bit, the pins; the mirror rotated only with UM set and no latch; nothing else. The operands are payload
bits 0 and 1. -/
def Obligations.SrShiftShiftsOneBit : Prop :=
  (∀ (s : State) (bit um : Bool), let latch := decide (s.shifted + 1 = s.cfg.l)
    exec (.srShift bit um) s = .next { s with
      ser := false, sck := false, lat := if latch then true else s.lat,
      shifted := if latch then 0 else s.shifted + 1, isLatched := latch,
      mirror := if um && !latch then rotIn s.mirror bit else s.mirror,
      trace := s.trace ++ shiftEvents s.cfg bit ++ (if latch then latchEvents s.cfg else []),
      responses := s.responses ++ [⟨0#32, 0#32, false⟩] }) ∧
  (∀ (cfg : Config) (p : Nat),
    decodeCommand cfg (16 * p + 0x7) = .operation (.srShift (p.testBit 0) (p.testBit 1)))

/-- R128: the rotation puts the new bit at index 0, moves every element one place up and drops the last. -/
def Obligations.RotationInsertsAtTheFront : Prop :=
  ∀ (m : List Bool) (b : Bool),
    (rotIn m b).length = m.length ∧ (0 < m.length → (rotIn m b)[0]? = some b) ∧
    ∀ j, 1 ≤ j → j < m.length → (rotIn m b)[j]? = m[j - 1]?

/-- R126: from any count in range, the elements go out last first, with the one latch pulse after the shift at
which the count reaches L; the count comes back to where it was, the status bit says whether it was 0, the mirror
takes the array; nothing else changes. The operand is the L lowest payload bits. -/
def Obligations.SrSetSendsTheArrayInReverse : Prop :=
  (∀ (s : State) (bits : List Bool), bits.length = s.cfg.l → s.shifted < s.cfg.l →
    exec (.srSet bits) s = .next { s with
      ser := false, sck := false, lat := true, shifted := s.shifted, isLatched := decide (s.shifted = 0),
      mirror := bits,
      trace := s.trace ++
        ((bits.reverse.take (s.cfg.l - s.shifted)).flatMap (shiftEvents s.cfg) ++ latchEvents s.cfg ++
          (bits.reverse.drop (s.cfg.l - s.shifted)).flatMap (shiftEvents s.cfg)),
      responses := s.responses ++ [⟨0#32, 0#32, false⟩] }) ∧
  (∀ (cfg : Config) (p : Nat),
    decodeCommand cfg (16 * p + 0x6) = .operation (.srSet ((List.range cfg.l).map fun j => p.testBit j)))

/-- R127: one latch pulse; the status bit is set; the count is reset only with LATCH_CLEARS_COUNT = 1; nothing else
changes. It is opcode 0x8 whatever the payload. -/
def Obligations.SrLatchMakesOnePulse : Prop :=
  ∀ (s : State) (p : Nat),
    exec .srLatch s = .next { s with
      lat := true, isLatched := true, shifted := if s.cfg.latchClearsCount then 0 else s.shifted,
      trace := s.trace ++ latchEvents s.cfg, responses := s.responses ++ [⟨0#32, 0#32, false⟩] } ∧
    decodeCommand s.cfg (16 * p + 0x8) = .operation .srLatch

/-- Any L single-bit shifts make exactly one latch pulse, wherever the count stood, and bring the count back
(43_shift_register.md section 4, "Latch count"). -/
def Obligations.OneLatchInEveryLShifts : Prop :=
  ∀ (s : State) (ops : List (Bool × Bool)), s.shifted < s.cfg.l → ops.length = s.cfg.l →
    ∃ t es, runOps (ops.map fun o => .srShift o.1 o.2) s = .next t ∧ t.trace = s.trace ++ es ∧
      es.count (.set .lat false) = 1 ∧ es.count (.set .lat true) = 1 ∧ t.shifted = s.shifted

/-- The trace of an aligned SR_SET has 7L + 3 events, L of them rising clock edges and one of each latch edge, the
latch edges last (43_shift_register.md section 4, "The trace of an aligned `SR_SET`"). -/
def Obligations.AlignedSrSetTrace : Prop :=
  ∀ (s : State) (bits : List Bool), bits.length = s.cfg.l → 0 < s.cfg.l → s.shifted = 0 →
    ∃ t, exec (.srSet bits) s = .next t ∧
      t.trace = s.trace ++ (bits.reverse.flatMap (shiftEvents s.cfg) ++ latchEvents s.cfg) ∧
      t.trace.length = s.trace.length + 7 * s.cfg.l + 3 ∧
      (bits.reverse.flatMap (shiftEvents s.cfg)).count (.set .sck true) = s.cfg.l ∧
      (bits.reverse.flatMap (shiftEvents s.cfg)).count (.set .lat false) = 0

/-- End to end: an aligned SR_SET leaves the outputs of an attached chain equal to the array and to the mirror,
whatever the chain held, and the outputs do not change before the last event (43_shift_register.md section 5,
"End-to-end law"; the instant of the copy is the reference model's: log 15). -/
def Obligations.AlignedSrSetShowsTheArray : Prop :=
  ∀ (s : State) (bits : List Bool) (c : Chain),
    bits.length = s.cfg.l → 0 < s.cfg.l → s.shifted = 0 → s.sck = false → s.lat = true → c.attached s →
    ∃ t es, exec (.srSet bits) s = .next t ∧ t.trace = s.trace ++ es ∧ t.mirror = bits ∧
      (c.run es).out = bits ∧ (c.run es).stage = bits ∧
      ∀ k, k < es.length → (c.run (es.take k)).out = c.out

/-- A misaligned SR_SET shows a torn frame: with the count at k > 0 the outputs are the elements from k on, then
the first k bits that stood in the chain's stage; the mirror holds the array, the stage too, and the count stays
at k (70_reset_and_hazards.md section 3, "`SR_SET` from a misaligned counter"; the chain is log 15's). -/
def Obligations.MisalignedSrSetShowsATornFrame : Prop :=
  ∀ (s : State) (bits : List Bool) (c : Chain),
    bits.length = s.cfg.l → 0 < s.shifted → s.shifted < s.cfg.l → s.sck = false → s.lat = true → c.attached s →
    ∃ t es, exec (.srSet bits) s = .next t ∧ t.trace = s.trace ++ es ∧ t.mirror = bits ∧
      t.shifted = s.shifted ∧ t.isLatched = false ∧ (c.run es).stage = bits ∧
      (c.run es).out = bits.drop s.shifted ++ c.stage.take s.shifted

/-- Tracking: where the mirror equals the chain's stage, an SR_SHIFT with UM set keeps them equal if it does not
latch, and leaves the mirror one place behind if it does (43_shift_register.md section 5, "Tracking law"; the
chain is log 15's). -/
def Obligations.MirrorTracksTheStage : Prop :=
  ∀ (s : State) (bit : Bool) (c : Chain), s.sck = false → s.lat = true → c.attached s → s.mirror = c.stage →
    ∃ t es, exec (.srShift bit true) s = .next t ∧ t.trace = s.trace ++ es ∧
      (s.shifted + 1 ≠ s.cfg.l → t.mirror = (c.run es).stage ∧ (c.run es).out = c.out) ∧
      (s.shifted + 1 = s.cfg.l → (c.run es).out = (c.run es).stage ∧ t.mirror = s.mirror ∧
        ∀ j, j + 1 < s.cfg.l → t.mirror[j]? = (c.run es).stage[j + 1]?)

/-- An SR_LATCH shows whatever the chain's stage holds (70_reset_and_hazards.md section 3, "`SR_LATCH` in
mid-shift"; the chain is log 15's). -/
def Obligations.SrLatchShowsTheStage : Prop :=
  ∀ (s : State) (c : Chain), c.attached s →
    ∃ t es, exec .srLatch s = .next t ∧ t.trace = s.trace ++ es ∧
      (c.run es).out = c.stage ∧ (c.run es).stage = c.stage ∧ t.mirror = s.mirror

/-! Whole-machine rules. -/

/-- Each command returns exactly one response (30_encoding.md sections 2 and 4), each event none; R0 and R1 are
the operation's results and 0 where it returns nothing, ERR is 0 for every legal command and 1 for a reserved
opcode; the response word packs the three fields. That the step of a reserved opcode answers a next state is the
model's reading: log 8; how the inputs are held is its choice: log 5. -/
def Obligations.OneResponsePerCommand : Prop :=
  (∀ (s : State) (i : Instr), ∃ t, exec i s = .next t ∧ t.responses = s.responses ++
    (match i with
     | .tick => []
     | .pulse => []
     | .clkNow => [⟨s.cnt, 0#32, false⟩]
     | .rdSnap => [⟨s.snapOldest, s.snapCount, false⟩]
     | .calcRpm a b c => [⟨rate a b c, 0#32, false⟩]
     | .clkInit => [⟨0#32, 0#32, false⟩]
     | .histInit => [⟨0#32, 0#32, false⟩]
     | .srSet _ => [⟨0#32, 0#32, false⟩]
     | .srShift _ _ => [⟨0#32, 0#32, false⟩]
     | .srLatch => [⟨0#32, 0#32, false⟩])) ∧
  (∀ (s : State) (p : Nat) (op : BitVec 4), op = 0#4 ∨ 9 ≤ op.toNat →
    ∃ t, step (s.setInputs (⟨false, 0b00#2, some (16 * p + op.toNat)⟩ :: s.inputs)) = .next t ∧
      t.responses = s.responses ++ [⟨0#32, 0#32, true⟩]) ∧
  (∀ r : Response, r.word.extractLsb' 0 32 = r.r0 ∧ r.word.extractLsb' 32 32 = r.r1 ∧
    r.word.getLsbD 64 = r.err)

/-- Who may change what: each operation completes and changes only the fields its row names; of HIST, a PULSE
writes the slot at `head` and no other (10_state.md section 8, "Who may change what"). -/
def Obligations.EachOperationChangesOnlyItsFields : Prop :=
  ∀ s : State,
    (∃ t, exec .tick s = .next t ∧ t = { s with cnt := t.cnt }) ∧
    (∃ t, exec .pulse s = .next t ∧
      t = { s with hist := t.hist, head := t.head, snapOldest := t.snapOldest, snapCount := t.snapCount } ∧
      ∀ j, j ≠ s.head → histRead t.hist j = histRead s.hist j) ∧
    (∃ t, exec .clkInit s = .next t ∧ t = { s with cnt := t.cnt, armed := t.armed, responses := t.responses }) ∧
    (∃ t, exec .histInit s = .next t ∧
      t = { s with hist := t.hist, head := t.head, snapOldest := t.snapOldest, snapCount := t.snapCount,
                   responses := t.responses }) ∧
    (∀ a b c : Word, ∀ i ∈ [Instr.clkNow, .rdSnap, .calcRpm a b c],
      ∃ t, exec i s = .next t ∧ t = { s with responses := t.responses }) ∧
    (∀ (bits : List Bool) (bit um : Bool), ∀ i ∈ [Instr.srSet bits, .srShift bit um, .srLatch],
      ∃ t, exec i s = .next t ∧
        t = { s with mirror := t.mirror, shifted := t.shifted, isLatched := t.isLatched, ser := t.ser,
                     sck := t.sck, lat := t.lat, trace := t.trace, responses := t.responses })

/-- The pin trace only grows, by the serializer's operations alone: every operation appends to it, and every
operation of the other families appends nothing (00_scope.md section 5; 43_shift_register.md section 6). -/
def Obligations.TraceGrowsOnlyBySerializer : Prop :=
  ∀ (s : State) (i : Instr), ∃ t es, exec i s = .next t ∧ t.trace = s.trace ++ es ∧
    ((∀ bits, i ≠ .srSet bits) → (∀ bit um, i ≠ .srShift bit um) → i ≠ .srLatch → es = [])

/-- A TICK or a PULSE and a serializer operation commute exactly, so that where an event falls with respect to a
serializer operation cannot be told from the state (20_memory.md section 3). -/
def Obligations.EventsCommuteWithSerializerOperations : Prop :=
  ∀ (s : State) (bits : List Bool) (bit um : Bool), ∀ e ∈ [Instr.tick, .pulse],
    ∀ i ∈ [Instr.srSet bits, .srShift bit um, .srLatch],
      ∃ t, runOps [e, i] s = .next t ∧ runOps [i, e] s = .next t

/-- Neither side reads the other: from two states that agree on the clock, the history and the snapshot, every
operation leaves two states that agree there, whatever the serializer holds; and from two states that agree on
the serializer, two that agree there, whatever the clock and the history hold (10_state.md section 8). -/
def Obligations.ClockSideAndSerializerSideAreIndependent : Prop :=
  ∀ (s s' : State) (i : Instr), ∃ t t', exec i s = .next t ∧ exec i s' = .next t' ∧
    (sameClockSide s s' → sameClockSide t t') ∧
    (sameSerializerSide s s' → sameSerializerSide t t')

end
end

