-- ==== Sys2Proof/Laws/Chain.lean ====
section
/-! SUPPORT. Laws/Chain.lean: what the reference chain does on the events of one bit and of one latch pulse. -/

namespace Sys2Proof.Machine

@[simp] theorem Chain.run_nil (c : Chain) : c.run [] = c := rfl

theorem Chain.run_cons (c : Chain) (e : PinEvent) (es : List PinEvent) : c.run (e :: es) = (c.see e).run es := rfl

theorem Chain.run_append (c : Chain) (es fs : List PinEvent) : c.run (es ++ fs) = (c.run es).run fs := by
  simp [Chain.run]

/-- One bit, with the clock low before it: the bit is captured at the front (R131). -/
theorem Chain.run_shiftEvents {c : Chain} (cfg : Config) (b : Bool) (h : c.sck = false) :
    c.run (shiftEvents cfg b) = { c with stage := (b :: c.stage).dropLast, ser := false, sck := false } := by
  simp [Chain.run, shiftEvents, Chain.see, Chain.capture, h]

/-- One latch pulse: the outputs take the stage, which does not change (R131). -/
theorem Chain.run_latchEvents (c : Chain) (cfg : Config) :
    c.run (latchEvents cfg) = { c with out := c.stage, lat := true } := by
  simp [Chain.run, latchEvents, Chain.see, Chain.copy]

end Sys2Proof.Machine
end

