-- ==== Sys2Proof/Laws/State.lean ====
section
/-! SUPPORT. Laws/State.lean: what each update of Machine/Ops.lean does to each field, so that no later proof
unfolds a record update. -/

namespace Sys2Proof.Machine

variable (s : State)

@[simp] theorem State.setCnt_cfg (v : Word) : (s.setCnt v).cfg = s.cfg := rfl
@[simp] theorem State.setCnt_cnt (v : Word) : (s.setCnt v).cnt = v := rfl
@[simp] theorem State.setCnt_armed (v : Word) : (s.setCnt v).armed = s.armed := rfl
@[simp] theorem State.setCnt_hist (v : Word) : (s.setCnt v).hist = s.hist := rfl
@[simp] theorem State.setCnt_head (v : Word) : (s.setCnt v).head = s.head := rfl
@[simp] theorem State.setCnt_snapOldest (v : Word) : (s.setCnt v).snapOldest = s.snapOldest := rfl
@[simp] theorem State.setCnt_snapCount (v : Word) : (s.setCnt v).snapCount = s.snapCount := rfl
@[simp] theorem State.setCnt_mirror (v : Word) : (s.setCnt v).mirror = s.mirror := rfl
@[simp] theorem State.setCnt_shifted (v : Word) : (s.setCnt v).shifted = s.shifted := rfl
@[simp] theorem State.setCnt_isLatched (v : Word) : (s.setCnt v).isLatched = s.isLatched := rfl
@[simp] theorem State.setCnt_ser (v : Word) : (s.setCnt v).ser = s.ser := rfl
@[simp] theorem State.setCnt_sck (v : Word) : (s.setCnt v).sck = s.sck := rfl
@[simp] theorem State.setCnt_lat (v : Word) : (s.setCnt v).lat = s.lat := rfl
@[simp] theorem State.setCnt_trace (v : Word) : (s.setCnt v).trace = s.trace := rfl
@[simp] theorem State.setCnt_responses (v : Word) : (s.setCnt v).responses = s.responses := rfl
@[simp] theorem State.setCnt_inputs (v : Word) : (s.setCnt v).inputs = s.inputs := rfl

@[simp] theorem State.setArmed_cfg (v : Bool) : (s.setArmed v).cfg = s.cfg := rfl
@[simp] theorem State.setArmed_cnt (v : Bool) : (s.setArmed v).cnt = s.cnt := rfl
@[simp] theorem State.setArmed_armed (v : Bool) : (s.setArmed v).armed = v := rfl
@[simp] theorem State.setArmed_hist (v : Bool) : (s.setArmed v).hist = s.hist := rfl
@[simp] theorem State.setArmed_head (v : Bool) : (s.setArmed v).head = s.head := rfl
@[simp] theorem State.setArmed_snapOldest (v : Bool) : (s.setArmed v).snapOldest = s.snapOldest := rfl
@[simp] theorem State.setArmed_snapCount (v : Bool) : (s.setArmed v).snapCount = s.snapCount := rfl
@[simp] theorem State.setArmed_mirror (v : Bool) : (s.setArmed v).mirror = s.mirror := rfl
@[simp] theorem State.setArmed_shifted (v : Bool) : (s.setArmed v).shifted = s.shifted := rfl
@[simp] theorem State.setArmed_isLatched (v : Bool) : (s.setArmed v).isLatched = s.isLatched := rfl
@[simp] theorem State.setArmed_ser (v : Bool) : (s.setArmed v).ser = s.ser := rfl
@[simp] theorem State.setArmed_sck (v : Bool) : (s.setArmed v).sck = s.sck := rfl
@[simp] theorem State.setArmed_lat (v : Bool) : (s.setArmed v).lat = s.lat := rfl
@[simp] theorem State.setArmed_trace (v : Bool) : (s.setArmed v).trace = s.trace := rfl
@[simp] theorem State.setArmed_responses (v : Bool) : (s.setArmed v).responses = s.responses := rfl
@[simp] theorem State.setArmed_inputs (v : Bool) : (s.setArmed v).inputs = s.inputs := rfl

@[simp] theorem State.setHist_cfg (h : List Word) (i : Nat) : (s.setHist h i).cfg = s.cfg := rfl
@[simp] theorem State.setHist_cnt (h : List Word) (i : Nat) : (s.setHist h i).cnt = s.cnt := rfl
@[simp] theorem State.setHist_armed (h : List Word) (i : Nat) : (s.setHist h i).armed = s.armed := rfl
@[simp] theorem State.setHist_hist (h : List Word) (i : Nat) : (s.setHist h i).hist = h := rfl
@[simp] theorem State.setHist_head (h : List Word) (i : Nat) : (s.setHist h i).head = i := rfl
@[simp] theorem State.setHist_snapOldest (h : List Word) (i : Nat) : (s.setHist h i).snapOldest = s.snapOldest := rfl
@[simp] theorem State.setHist_snapCount (h : List Word) (i : Nat) : (s.setHist h i).snapCount = s.snapCount := rfl
@[simp] theorem State.setHist_mirror (h : List Word) (i : Nat) : (s.setHist h i).mirror = s.mirror := rfl
@[simp] theorem State.setHist_shifted (h : List Word) (i : Nat) : (s.setHist h i).shifted = s.shifted := rfl
@[simp] theorem State.setHist_isLatched (h : List Word) (i : Nat) : (s.setHist h i).isLatched = s.isLatched := rfl
@[simp] theorem State.setHist_ser (h : List Word) (i : Nat) : (s.setHist h i).ser = s.ser := rfl
@[simp] theorem State.setHist_sck (h : List Word) (i : Nat) : (s.setHist h i).sck = s.sck := rfl
@[simp] theorem State.setHist_lat (h : List Word) (i : Nat) : (s.setHist h i).lat = s.lat := rfl
@[simp] theorem State.setHist_trace (h : List Word) (i : Nat) : (s.setHist h i).trace = s.trace := rfl
@[simp] theorem State.setHist_responses (h : List Word) (i : Nat) : (s.setHist h i).responses = s.responses := rfl
@[simp] theorem State.setHist_inputs (h : List Word) (i : Nat) : (s.setHist h i).inputs = s.inputs := rfl

@[simp] theorem State.setSnapshot_cfg (p : Word × Word) : (s.setSnapshot p).cfg = s.cfg := rfl
@[simp] theorem State.setSnapshot_cnt (p : Word × Word) : (s.setSnapshot p).cnt = s.cnt := rfl
@[simp] theorem State.setSnapshot_armed (p : Word × Word) : (s.setSnapshot p).armed = s.armed := rfl
@[simp] theorem State.setSnapshot_hist (p : Word × Word) : (s.setSnapshot p).hist = s.hist := rfl
@[simp] theorem State.setSnapshot_head (p : Word × Word) : (s.setSnapshot p).head = s.head := rfl
@[simp] theorem State.setSnapshot_snapOldest (p : Word × Word) : (s.setSnapshot p).snapOldest = p.1 := rfl
@[simp] theorem State.setSnapshot_snapCount (p : Word × Word) : (s.setSnapshot p).snapCount = p.2 := rfl
@[simp] theorem State.setSnapshot_mirror (p : Word × Word) : (s.setSnapshot p).mirror = s.mirror := rfl
@[simp] theorem State.setSnapshot_shifted (p : Word × Word) : (s.setSnapshot p).shifted = s.shifted := rfl
@[simp] theorem State.setSnapshot_isLatched (p : Word × Word) : (s.setSnapshot p).isLatched = s.isLatched := rfl
@[simp] theorem State.setSnapshot_ser (p : Word × Word) : (s.setSnapshot p).ser = s.ser := rfl
@[simp] theorem State.setSnapshot_sck (p : Word × Word) : (s.setSnapshot p).sck = s.sck := rfl
@[simp] theorem State.setSnapshot_lat (p : Word × Word) : (s.setSnapshot p).lat = s.lat := rfl
@[simp] theorem State.setSnapshot_trace (p : Word × Word) : (s.setSnapshot p).trace = s.trace := rfl
@[simp] theorem State.setSnapshot_responses (p : Word × Word) : (s.setSnapshot p).responses = s.responses := rfl
@[simp] theorem State.setSnapshot_inputs (p : Word × Word) : (s.setSnapshot p).inputs = s.inputs := rfl

@[simp] theorem State.setMirror_cfg (m : List Bool) : (s.setMirror m).cfg = s.cfg := rfl
@[simp] theorem State.setMirror_cnt (m : List Bool) : (s.setMirror m).cnt = s.cnt := rfl
@[simp] theorem State.setMirror_armed (m : List Bool) : (s.setMirror m).armed = s.armed := rfl
@[simp] theorem State.setMirror_hist (m : List Bool) : (s.setMirror m).hist = s.hist := rfl
@[simp] theorem State.setMirror_head (m : List Bool) : (s.setMirror m).head = s.head := rfl
@[simp] theorem State.setMirror_snapOldest (m : List Bool) : (s.setMirror m).snapOldest = s.snapOldest := rfl
@[simp] theorem State.setMirror_snapCount (m : List Bool) : (s.setMirror m).snapCount = s.snapCount := rfl
@[simp] theorem State.setMirror_mirror (m : List Bool) : (s.setMirror m).mirror = m := rfl
@[simp] theorem State.setMirror_shifted (m : List Bool) : (s.setMirror m).shifted = s.shifted := rfl
@[simp] theorem State.setMirror_isLatched (m : List Bool) : (s.setMirror m).isLatched = s.isLatched := rfl
@[simp] theorem State.setMirror_ser (m : List Bool) : (s.setMirror m).ser = s.ser := rfl
@[simp] theorem State.setMirror_sck (m : List Bool) : (s.setMirror m).sck = s.sck := rfl
@[simp] theorem State.setMirror_lat (m : List Bool) : (s.setMirror m).lat = s.lat := rfl
@[simp] theorem State.setMirror_trace (m : List Bool) : (s.setMirror m).trace = s.trace := rfl
@[simp] theorem State.setMirror_responses (m : List Bool) : (s.setMirror m).responses = s.responses := rfl
@[simp] theorem State.setMirror_inputs (m : List Bool) : (s.setMirror m).inputs = s.inputs := rfl

@[simp] theorem State.setShifted_cfg (k : Nat) : (s.setShifted k).cfg = s.cfg := rfl
@[simp] theorem State.setShifted_cnt (k : Nat) : (s.setShifted k).cnt = s.cnt := rfl
@[simp] theorem State.setShifted_armed (k : Nat) : (s.setShifted k).armed = s.armed := rfl
@[simp] theorem State.setShifted_hist (k : Nat) : (s.setShifted k).hist = s.hist := rfl
@[simp] theorem State.setShifted_head (k : Nat) : (s.setShifted k).head = s.head := rfl
@[simp] theorem State.setShifted_snapOldest (k : Nat) : (s.setShifted k).snapOldest = s.snapOldest := rfl
@[simp] theorem State.setShifted_snapCount (k : Nat) : (s.setShifted k).snapCount = s.snapCount := rfl
@[simp] theorem State.setShifted_mirror (k : Nat) : (s.setShifted k).mirror = s.mirror := rfl
@[simp] theorem State.setShifted_shifted (k : Nat) : (s.setShifted k).shifted = k := rfl
@[simp] theorem State.setShifted_isLatched (k : Nat) : (s.setShifted k).isLatched = s.isLatched := rfl
@[simp] theorem State.setShifted_ser (k : Nat) : (s.setShifted k).ser = s.ser := rfl
@[simp] theorem State.setShifted_sck (k : Nat) : (s.setShifted k).sck = s.sck := rfl
@[simp] theorem State.setShifted_lat (k : Nat) : (s.setShifted k).lat = s.lat := rfl
@[simp] theorem State.setShifted_trace (k : Nat) : (s.setShifted k).trace = s.trace := rfl
@[simp] theorem State.setShifted_responses (k : Nat) : (s.setShifted k).responses = s.responses := rfl
@[simp] theorem State.setShifted_inputs (k : Nat) : (s.setShifted k).inputs = s.inputs := rfl

@[simp] theorem State.setLatched_cfg (v : Bool) : (s.setLatched v).cfg = s.cfg := rfl
@[simp] theorem State.setLatched_cnt (v : Bool) : (s.setLatched v).cnt = s.cnt := rfl
@[simp] theorem State.setLatched_armed (v : Bool) : (s.setLatched v).armed = s.armed := rfl
@[simp] theorem State.setLatched_hist (v : Bool) : (s.setLatched v).hist = s.hist := rfl
@[simp] theorem State.setLatched_head (v : Bool) : (s.setLatched v).head = s.head := rfl
@[simp] theorem State.setLatched_snapOldest (v : Bool) : (s.setLatched v).snapOldest = s.snapOldest := rfl
@[simp] theorem State.setLatched_snapCount (v : Bool) : (s.setLatched v).snapCount = s.snapCount := rfl
@[simp] theorem State.setLatched_mirror (v : Bool) : (s.setLatched v).mirror = s.mirror := rfl
@[simp] theorem State.setLatched_shifted (v : Bool) : (s.setLatched v).shifted = s.shifted := rfl
@[simp] theorem State.setLatched_isLatched (v : Bool) : (s.setLatched v).isLatched = v := rfl
@[simp] theorem State.setLatched_ser (v : Bool) : (s.setLatched v).ser = s.ser := rfl
@[simp] theorem State.setLatched_sck (v : Bool) : (s.setLatched v).sck = s.sck := rfl
@[simp] theorem State.setLatched_lat (v : Bool) : (s.setLatched v).lat = s.lat := rfl
@[simp] theorem State.setLatched_trace (v : Bool) : (s.setLatched v).trace = s.trace := rfl
@[simp] theorem State.setLatched_responses (v : Bool) : (s.setLatched v).responses = s.responses := rfl
@[simp] theorem State.setLatched_inputs (v : Bool) : (s.setLatched v).inputs = s.inputs := rfl

@[simp] theorem State.emit_cfg (e : PinEvent) : (s.emit e).cfg = s.cfg := rfl
@[simp] theorem State.emit_cnt (e : PinEvent) : (s.emit e).cnt = s.cnt := rfl
@[simp] theorem State.emit_armed (e : PinEvent) : (s.emit e).armed = s.armed := rfl
@[simp] theorem State.emit_hist (e : PinEvent) : (s.emit e).hist = s.hist := rfl
@[simp] theorem State.emit_head (e : PinEvent) : (s.emit e).head = s.head := rfl
@[simp] theorem State.emit_snapOldest (e : PinEvent) : (s.emit e).snapOldest = s.snapOldest := rfl
@[simp] theorem State.emit_snapCount (e : PinEvent) : (s.emit e).snapCount = s.snapCount := rfl
@[simp] theorem State.emit_mirror (e : PinEvent) : (s.emit e).mirror = s.mirror := rfl
@[simp] theorem State.emit_shifted (e : PinEvent) : (s.emit e).shifted = s.shifted := rfl
@[simp] theorem State.emit_isLatched (e : PinEvent) : (s.emit e).isLatched = s.isLatched := rfl
@[simp] theorem State.emit_ser (e : PinEvent) : (s.emit e).ser = s.ser := rfl
@[simp] theorem State.emit_sck (e : PinEvent) : (s.emit e).sck = s.sck := rfl
@[simp] theorem State.emit_lat (e : PinEvent) : (s.emit e).lat = s.lat := rfl
@[simp] theorem State.emit_trace (e : PinEvent) : (s.emit e).trace = s.trace ++ [e] := rfl
@[simp] theorem State.emit_responses (e : PinEvent) : (s.emit e).responses = s.responses := rfl
@[simp] theorem State.emit_inputs (e : PinEvent) : (s.emit e).inputs = s.inputs := rfl

@[simp] theorem State.respond_cfg (r : Response) : (s.respond r).cfg = s.cfg := rfl
@[simp] theorem State.respond_cnt (r : Response) : (s.respond r).cnt = s.cnt := rfl
@[simp] theorem State.respond_armed (r : Response) : (s.respond r).armed = s.armed := rfl
@[simp] theorem State.respond_hist (r : Response) : (s.respond r).hist = s.hist := rfl
@[simp] theorem State.respond_head (r : Response) : (s.respond r).head = s.head := rfl
@[simp] theorem State.respond_snapOldest (r : Response) : (s.respond r).snapOldest = s.snapOldest := rfl
@[simp] theorem State.respond_snapCount (r : Response) : (s.respond r).snapCount = s.snapCount := rfl
@[simp] theorem State.respond_mirror (r : Response) : (s.respond r).mirror = s.mirror := rfl
@[simp] theorem State.respond_shifted (r : Response) : (s.respond r).shifted = s.shifted := rfl
@[simp] theorem State.respond_isLatched (r : Response) : (s.respond r).isLatched = s.isLatched := rfl
@[simp] theorem State.respond_ser (r : Response) : (s.respond r).ser = s.ser := rfl
@[simp] theorem State.respond_sck (r : Response) : (s.respond r).sck = s.sck := rfl
@[simp] theorem State.respond_lat (r : Response) : (s.respond r).lat = s.lat := rfl
@[simp] theorem State.respond_trace (r : Response) : (s.respond r).trace = s.trace := rfl
@[simp] theorem State.respond_responses (r : Response) : (s.respond r).responses = s.responses ++ [r] := rfl
@[simp] theorem State.respond_inputs (r : Response) : (s.respond r).inputs = s.inputs := rfl

@[simp] theorem State.setInputs_cfg (cs : List Cycle) : (s.setInputs cs).cfg = s.cfg := rfl
@[simp] theorem State.setInputs_cnt (cs : List Cycle) : (s.setInputs cs).cnt = s.cnt := rfl
@[simp] theorem State.setInputs_armed (cs : List Cycle) : (s.setInputs cs).armed = s.armed := rfl
@[simp] theorem State.setInputs_hist (cs : List Cycle) : (s.setInputs cs).hist = s.hist := rfl
@[simp] theorem State.setInputs_head (cs : List Cycle) : (s.setInputs cs).head = s.head := rfl
@[simp] theorem State.setInputs_snapOldest (cs : List Cycle) : (s.setInputs cs).snapOldest = s.snapOldest := rfl
@[simp] theorem State.setInputs_snapCount (cs : List Cycle) : (s.setInputs cs).snapCount = s.snapCount := rfl
@[simp] theorem State.setInputs_mirror (cs : List Cycle) : (s.setInputs cs).mirror = s.mirror := rfl
@[simp] theorem State.setInputs_shifted (cs : List Cycle) : (s.setInputs cs).shifted = s.shifted := rfl
@[simp] theorem State.setInputs_isLatched (cs : List Cycle) : (s.setInputs cs).isLatched = s.isLatched := rfl
@[simp] theorem State.setInputs_ser (cs : List Cycle) : (s.setInputs cs).ser = s.ser := rfl
@[simp] theorem State.setInputs_sck (cs : List Cycle) : (s.setInputs cs).sck = s.sck := rfl
@[simp] theorem State.setInputs_lat (cs : List Cycle) : (s.setInputs cs).lat = s.lat := rfl
@[simp] theorem State.setInputs_trace (cs : List Cycle) : (s.setInputs cs).trace = s.trace := rfl
@[simp] theorem State.setInputs_responses (cs : List Cycle) : (s.setInputs cs).responses = s.responses := rfl
@[simp] theorem State.setInputs_inputs (cs : List Cycle) : (s.setInputs cs).inputs = cs := rfl

@[simp] theorem State.setPin_cfg (p : Pin) (v : Bool) : (s.setPin p v).cfg = s.cfg := by
  cases p <;> rfl
@[simp] theorem State.setPin_cnt (p : Pin) (v : Bool) : (s.setPin p v).cnt = s.cnt := by
  cases p <;> rfl
@[simp] theorem State.setPin_armed (p : Pin) (v : Bool) : (s.setPin p v).armed = s.armed := by
  cases p <;> rfl
@[simp] theorem State.setPin_hist (p : Pin) (v : Bool) : (s.setPin p v).hist = s.hist := by
  cases p <;> rfl
@[simp] theorem State.setPin_head (p : Pin) (v : Bool) : (s.setPin p v).head = s.head := by
  cases p <;> rfl
@[simp] theorem State.setPin_snapOldest (p : Pin) (v : Bool) : (s.setPin p v).snapOldest = s.snapOldest := by
  cases p <;> rfl
@[simp] theorem State.setPin_snapCount (p : Pin) (v : Bool) : (s.setPin p v).snapCount = s.snapCount := by
  cases p <;> rfl
@[simp] theorem State.setPin_mirror (p : Pin) (v : Bool) : (s.setPin p v).mirror = s.mirror := by
  cases p <;> rfl
@[simp] theorem State.setPin_shifted (p : Pin) (v : Bool) : (s.setPin p v).shifted = s.shifted := by
  cases p <;> rfl
@[simp] theorem State.setPin_isLatched (p : Pin) (v : Bool) : (s.setPin p v).isLatched = s.isLatched := by
  cases p <;> rfl
@[simp] theorem State.setPin_ser_ser (v : Bool) : (s.setPin .ser v).ser = v := rfl
@[simp] theorem State.setPin_sck_ser (v : Bool) : (s.setPin .sck v).ser = s.ser := rfl
@[simp] theorem State.setPin_lat_ser (v : Bool) : (s.setPin .lat v).ser = s.ser := rfl
@[simp] theorem State.setPin_ser_sck (v : Bool) : (s.setPin .ser v).sck = s.sck := rfl
@[simp] theorem State.setPin_sck_sck (v : Bool) : (s.setPin .sck v).sck = v := rfl
@[simp] theorem State.setPin_lat_sck (v : Bool) : (s.setPin .lat v).sck = s.sck := rfl
@[simp] theorem State.setPin_ser_lat (v : Bool) : (s.setPin .ser v).lat = s.lat := rfl
@[simp] theorem State.setPin_sck_lat (v : Bool) : (s.setPin .sck v).lat = s.lat := rfl
@[simp] theorem State.setPin_lat_lat (v : Bool) : (s.setPin .lat v).lat = v := rfl
@[simp] theorem State.setPin_trace (p : Pin) (v : Bool) : (s.setPin p v).trace = s.trace := by
  cases p <;> rfl
@[simp] theorem State.setPin_responses (p : Pin) (v : Bool) : (s.setPin p v).responses = s.responses := by
  cases p <;> rfl
@[simp] theorem State.setPin_inputs (p : Pin) (v : Bool) : (s.setPin p v).inputs = s.inputs := by
  cases p <;> rfl

/-- Two states with equal fields are equal. -/
theorem State.eq_of_fields (t : State)
    (h_cfg : s.cfg = t.cfg) (h_cnt : s.cnt = t.cnt) (h_armed : s.armed = t.armed)
    (h_hist : s.hist = t.hist) (h_head : s.head = t.head)
    (h_snapOldest : s.snapOldest = t.snapOldest) (h_snapCount : s.snapCount = t.snapCount)
    (h_mirror : s.mirror = t.mirror) (h_shifted : s.shifted = t.shifted)
    (h_isLatched : s.isLatched = t.isLatched) (h_ser : s.ser = t.ser) (h_sck : s.sck = t.sck)
    (h_lat : s.lat = t.lat) (h_trace : s.trace = t.trace) (h_responses : s.responses = t.responses)
    (h_inputs : s.inputs = t.inputs) : s = t := by
  cases s; cases t; simp_all

end Sys2Proof.Machine
end

