-- ==== Sys2Proof/Laws/Memory.lean ====
section
/-! SUPPORT. Laws/Memory.lean: every operation on HIST and on MIRROR keeps the memory's one form, and what an
insertion does to the logical view. -/

namespace Sys2Proof.Machine

theorem Memory.wf_iff (n : Nat) (h : List Word) : Memory.wf n h = true ↔ h.length = n := by
  simp [Memory.wf]

theorem Memory.mirrorWf_iff (l : Nat) (m : List Bool) : Memory.mirrorWf l m = true ↔ m.length = l := by
  simp [Memory.mirrorWf]

@[simp] theorem histWrite_length (h : List Word) (i : Nat) (v : Word) : (histWrite h i v).length = h.length := by
  simp [histWrite]

@[simp] theorem histClear_length (n : Nat) : (histClear n).length = n := by
  simp [histClear]

@[simp] theorem rotIn_length (m : List Bool) (b : Bool) : (rotIn m b).length = m.length := by
  simp [rotIn]

/-- A write keeps HIST's form. -/
theorem histWrite_keeps_wf {n : Nat} {h : List Word} (i : Nat) (v : Word) (hw : Memory.wf n h = true) :
    Memory.wf n (histWrite h i v) = true := by
  simpa [Memory.wf] using hw

/-- Clearing gives HIST's form. -/
theorem histClear_wf (n : Nat) : Memory.wf n (histClear n) = true := by
  simp [Memory.wf]

/-- A rotation keeps MIRROR's form. -/
theorem rotIn_keeps_wf {l : Nat} {m : List Bool} (b : Bool) (hw : Memory.mirrorWf l m = true) :
    Memory.mirrorWf l (rotIn m b) = true := by
  simpa [Memory.mirrorWf] using hw

/-- Both memories have their form after reset. -/
theorem resetWith_memories_wf (cfg : Config) :
    Memory.wf cfg.n (State.resetWith cfg).hist = true ∧
      Memory.mirrorWf cfg.l (State.resetWith cfg).mirror = true := by
  simp [Memory.wf, Memory.mirrorWf, State.resetWith]

/-- A read after a write to the same slot gives the value written. -/
theorem histRead_write_same {h : List Word} {i : Nat} (v : Word) (hi : i < h.length) :
    histRead (histWrite h i v) i = v := by
  simp [histRead, histWrite, hi]

/-- A write leaves every other slot alone. -/
theorem histRead_write_other (h : List Word) {i j : Nat} (v : Word) (hij : i ≠ j) :
    histRead (histWrite h i v) j = histRead h j := by
  simp [histRead, histWrite, List.getElem?_set_ne hij]

@[simp] theorem histView_length (n : Nat) (h : List Word) (head : Nat) : (histView n h head).length = n := by
  simp [histView]

@[simp] theorem State.view_length (s : State) : s.view.length = s.cfg.n := by
  simp [State.view]

/-- Slot `k` of the logical view. -/
theorem histView_getElem (n : Nat) (h : List Word) (head k : Nat) (hk : k < (histView n h head).length) :
    (histView n h head)[k] = histRead h ((head + k) % n) := by
  simp [histView]

/-- The view of an all-sentinel memory is all sentinel. -/
theorem histView_clear (n head : Nat) : histView n (histClear n) head = histClear n := by
  refine List.ext_getElem (by simp) fun k hk _ => ?_
  have hn : 0 < n := by simp at hk; omega
  simp [histView_getElem, histRead, histClear, Nat.mod_lt _ hn]

/-- What an insertion does, field by field (R24). -/
@[simp] theorem State.insert_fields (s : State) (c : Word) :
    (s.insert c).cfg = s.cfg ∧ (s.insert c).hist = histWrite s.hist s.head c ∧
      (s.insert c).head = (s.head + 1) % s.cfg.n := ⟨rfl, rfl, rfl⟩

/-- After an insertion the oldest slot is gone and the new value is the newest (R24, R26). -/
theorem histView_insert {n : Nat} {h : List Word} {head : Nat} (c : Word) (hl : h.length = n) (hh : head < n) :
    histView n (histWrite h head c) ((head + 1) % n) = (histView n h head).drop 1 ++ [c] := by
  refine List.ext_getElem (by simp; omega) fun k hk _ => ?_
  have hkn : k < n := by simpa using hk
  rw [histView_getElem]
  have hmod : ((head + 1) % n + k) % n = (head + (k + 1)) % n := by
    rw [Nat.mod_add_mod]; congr 1; omega
  rw [hmod]
  by_cases hlast : k + 1 = n
  · have : (head + (k + 1)) % n = head := by rw [hlast, Nat.add_mod_right, Nat.mod_eq_of_lt hh]
    rw [this, histRead_write_same c (hl ▸ hh), List.getElem_append_right (by simp; omega)]
    simp
  · have hne : head ≠ (head + (k + 1)) % n := by
      rcases Nat.lt_or_ge (head + (k + 1)) n with hlt | hge
      · rw [Nat.mod_eq_of_lt hlt]; omega
      · rw [Nat.mod_eq_sub_mod hge, Nat.mod_eq_of_lt (by omega)]; omega
    rw [histRead_write_other h c hne, List.getElem_append_left (by simp; omega)]
    simp [histView_getElem]

end Sys2Proof.Machine
end

