-- ==== Sys2Proof/Laws/PerInstr.lean ====
section
/-! SUPPORT. Laws/PerInstr.lean: the family OwnPort, one lemma per operation: the encoder writes an operation
on the port where R72 puts it. -/

namespace Sys2Proof.Laws.OwnPort

/-- The encoded operation stands on the operation's own port (R72, R153). -/
def Statement (i : Instr) : Prop := (encode i).port = i.port

theorem tick : Statement .tick := rfl

theorem pulse : Statement .pulse := rfl

theorem clkInit : Statement .clkInit := rfl

theorem clkNow : Statement .clkNow := rfl

theorem histInit : Statement .histInit := rfl

theorem rdSnap : Statement .rdSnap := rfl

theorem calcRpm (a b c : Word) : Statement (.calcRpm a b c) := rfl

theorem srSet (bits : List Bool) : Statement (.srSet bits) := rfl

theorem srShift (bit um : Bool) : Statement (.srShift bit um) := rfl

theorem srLatch : Statement .srLatch := rfl

end Sys2Proof.Laws.OwnPort
end

