-- ==== Sys2Proof/Laws/Rate.lean ====
section
/-! SUPPORT. Laws/Rate.lean: the window scan, said once. -/

namespace Sys2Proof.Machine

/-- The three conditions of a fresh slot, apart. -/
theorem fresh_iff (bound c t : Word) :
    fresh bound c t = true ↔ t ≠ 0#32 ∧ t ≠ c ∧ sub32 c t ≤ bound := by
  simp [fresh, sentinel, and_assoc]

@[simp] theorem window_nil (bound c : Word) : window bound c [] = (0#32, 0#32) := rfl

theorem window_hit {bound c t : Word} (rest : List Word) (h : fresh bound c t = true) :
    window bound c (t :: rest) = (t, BitVec.ofNat 32 (rest.length + 1)) := by
  simp [window, h]

theorem window_skip {bound c t : Word} (rest : List Word) (h : fresh bound c t = false) :
    window bound c (t :: rest) = window bound c rest := by
  simp [window, h]

/-- Everything the scan can answer: no slot is fresh and the answer is (0, 0); or the list splits at its
first fresh slot, which is the oldest of the window, and the count is the number of slots from it on. -/
theorem window_cases (bound c : Word) (hs : List Word) :
    ((∀ t ∈ hs, fresh bound c t = false) ∧ window bound c hs = (0#32, 0#32)) ∨
    (∃ older t rest, hs = older ++ t :: rest ∧ (∀ u ∈ older, fresh bound c u = false) ∧
      fresh bound c t = true ∧ window bound c hs = (t, BitVec.ofNat 32 (rest.length + 1))) := by
  induction hs with
  | nil => exact .inl ⟨by simp, rfl⟩
  | cons t rest ih =>
    cases h : fresh bound c t with
    | true => exact .inr ⟨[], t, rest, by simp, by simp, h, window_hit rest h⟩
    | false =>
      rw [window_skip rest h]
      rcases ih with ⟨hall, hw⟩ | ⟨older, u, rest', rfl, hold, hu, hw⟩
      · exact .inl ⟨by simpa [h] using hall, hw⟩
      · exact .inr ⟨t :: older, u, rest', by simp, by simpa [h] using hold, hu, hw⟩

/-- A run of sentinels holds no window. -/
theorem window_sentinels (bound c : Word) (n : Nat) :
    window bound c (List.replicate n sentinel) = (0#32, 0#32) := by
  rcases window_cases bound c (List.replicate n sentinel) with ⟨-, h⟩ | ⟨older, t, rest, hs, -, ht, -⟩
  · exact h
  · have : t ∈ List.replicate n sentinel := by simp [hs]
    rw [(List.mem_replicate.mp this).2] at ht
    simp [fresh] at ht

end Sys2Proof.Machine
end

