-- ==== Sys2Proof/Laws/ShiftRegister.lean ====
section
/-! SUPPORT. Laws/ShiftRegister.lean: what each procedure of the serializer does, said once. -/

namespace Sys2Proof.Machine

/-- A latch pulse, whole: three events, LAT high, `is_latched` set, nothing else (R123). -/
theorem State.latchPulse_eq (s : State) :
    s.latchPulse = { s with lat := true, isLatched := true, trace := s.trace ++ latchEvents s.cfg } := by
  simp [State.latchPulse, State.drive, State.hold, State.setPin, State.emit, State.markLatched,
    State.setLatched, latchEvents]

/-- The pins of one bit, whole: seven events, SER and SCK low again, nothing else (R122). -/
theorem State.clockBit_eq (s : State) (b : Bool) :
    s.clockBit b = { s with ser := false, sck := false, trace := s.trace ++ shiftEvents s.cfg b } := by
  simp [State.clockBit, State.drive, State.hold, State.setPin, State.emit, shiftEvents]

/-- A shift at which the count does not reach L (R122). -/
theorem State.shift1_of_ne {s : State} (b : Bool) (h : s.shifted + 1 ≠ s.cfg.l) :
    s.shift1 b = ({ s with ser := false, sck := false, shifted := s.shifted + 1, isLatched := false,
                           trace := s.trace ++ shiftEvents s.cfg b }, false) := by
  simp [State.shift1, State.clockBit_eq, State.countBit, h, State.setShifted, State.clearLatched,
    State.setLatched]

/-- A shift at which the count reaches L (R122). -/
theorem State.shift1_of_eq {s : State} (b : Bool) (h : s.shifted + 1 = s.cfg.l) :
    s.shift1 b = ({ s with ser := false, sck := false, lat := true, shifted := 0, isLatched := true,
                           trace := s.trace ++ (shiftEvents s.cfg b ++ latchEvents s.cfg) }, true) := by
  simp [State.shift1, State.clockBit_eq, State.countBit, h, State.setShifted, State.latchPulse_eq]

/-- A run of shifts that does not reach L, not empty. -/
theorem State.shiftAll_of_lt {bs : List Bool} {s : State} (hbs : bs ≠ []) (h : s.shifted + bs.length < s.cfg.l) :
    s.shiftAll bs = { s with ser := false, sck := false, shifted := s.shifted + bs.length, isLatched := false,
                             trace := s.trace ++ bs.flatMap (shiftEvents s.cfg) } := by
  induction bs generalizing s with
  | nil => exact absurd rfl hbs
  | cons b bs ih =>
    simp only [List.length_cons] at h
    rw [State.shiftAll, State.shift1_of_ne b (by omega)]
    cases bs with
    | nil => simp [State.shiftAll]
    | cons c cs =>
      rw [ih (by simp) (by simp only [List.length_cons] at h ⊢; omega)]
      simp [Nat.add_assoc, Nat.add_comm]

/-- A run of shifts that reaches L at its last bit. -/
theorem State.shiftAll_of_eq {bs : List Bool} {s : State} (hbs : bs ≠ []) (h : s.shifted + bs.length = s.cfg.l) :
    s.shiftAll bs = { s with ser := false, sck := false, lat := true, shifted := 0, isLatched := true,
                             trace := s.trace ++ (bs.flatMap (shiftEvents s.cfg) ++ latchEvents s.cfg) } := by
  induction bs generalizing s with
  | nil => exact absurd rfl hbs
  | cons b bs ih =>
    simp only [List.length_cons] at h
    cases bs with
    | nil => simp [State.shiftAll, State.shift1_of_eq b (by simpa using h)]
    | cons c cs =>
      simp only [List.length_cons] at h
      rw [State.shiftAll, State.shift1_of_ne b (by omega),
        ih (by simp) (by simp only [List.length_cons]; omega)]
      simp [List.append_assoc]

/-- A run of shifts in two parts. -/
theorem State.shiftAll_append (s : State) (as bs : List Bool) :
    s.shiftAll (as ++ bs) = (s.shiftAll as).shiftAll bs := by
  induction as generalizing s with
  | nil => rfl
  | cons a as ih => exact ih _

/-- An operand of L elements is itself (R75). -/
theorem operandBits_of_length {l : Nat} {bits : List Bool} (h : bits.length = l) : operandBits l bits = bits := by
  refine List.ext_getElem (by simp [operandBits, h]) fun j hj _ => ?_
  have hj' : j < bits.length := by simpa [operandBits, ← h] using hj
  simp [operandBits, hj']

/-- Every array operand has L elements. -/
@[simp] theorem operandBits_length (l : Nat) (bits : List Bool) : (operandBits l bits).length = l := by
  simp [operandBits]

end Sys2Proof.Machine
end

