-- ==== Sys2Proof/Laws/Step.lean ====
section
/-! SUPPORT. Laws/Step.lean: what the ports can ask for, and what a step can do, said once. -/

namespace Sys2Proof.Machine

@[simp] theorem fetch_nil (cfg : Config) : fetch cfg [] = (.idle, []) := rfl

theorem fetch_reset (cfg : Config) {c : Cycle} (rest : List Cycle) (h : c.rst = true) :
    fetch cfg (c :: rest) = (.reset, rest) := by
  simp [fetch, h]

theorem fetch_event (cfg : Config) {c : Cycle} {i : Instr} {is : List Instr} (rest : List Cycle)
    (hr : c.rst = false) (h : decodeEvent c.ev = i :: is) :
    fetch cfg (c :: rest) = (.operation i, afterEvent c rest) := by
  simp [fetch, hr, h]

theorem fetch_command (cfg : Config) {c : Cycle} {w : Nat} (rest : List Cycle)
    (hr : c.rst = false) (he : decodeEvent c.ev = []) (hc : c.cmd = some w) :
    fetch cfg (c :: rest) = (Fetched.ofDecoded (decodeCommand cfg w), rest) := by
  simp [fetch, hr, he, hc]

theorem fetch_idle (cfg : Config) {c : Cycle} (rest : List Cycle)
    (hr : c.rst = false) (he : decodeEvent c.ev = []) (hc : c.cmd = none) :
    fetch cfg (c :: rest) = (.idle, rest) := by
  simp [fetch, hr, he, hc]

/-- Everything a step can do, by what the ports ask for. -/
theorem step_cases {s t : State} (h : step s = .next t) :
    ∃ rest, (t = s.setInputs rest) ∨ (t = (s.setInputs rest).assertReset) ∨
      (t = (s.setInputs rest).refuseCommand) ∨ (∃ i, exec i (s.setInputs rest) = .next t) := by
  unfold step at h
  rcases hf : fetch s.cfg s.inputs with ⟨f, rest⟩
  rw [hf] at h
  refine ⟨rest, ?_⟩
  cases f with
  | idle => exact .inl (Host.Outcome.next.inj h).symm
  | reset => exact .inr (.inl (Host.Outcome.next.inj h).symm)
  | reserved op => exact .inr (.inr (.inl (Host.Outcome.next.inj h).symm))
  | operation i => exact .inr (.inr (.inr ⟨i, h⟩))

end Sys2Proof.Machine
end

