-- ==== Sys2Proof/Tests/Slice0.lean ====
section
/-! SUPPORT. Tests/Slice0.lean: the smoke tests of WellFormed, decoding on words written out from the spec,
the spec's own vectors (spec/95_test_vectors.md), and a witness for every statement that has hypotheses. -/

namespace Sys2Proof.Tests

open Sys2Proof.Machine

/-- The configuration SMALL of 95_test_vectors.md section 0, with durations of our own. -/
def small : Config where
  n := 4
  digits := 1
  increment := 1#32
  maxStaleness := 5000#32
  latchClearsCount := false
  tSuRise := 1
  tSuFall := 2
  tCkhMin := 5
  tLatMin := 3

/-- The array "1011 0000" of the spec's examples. -/
def bits1011 : List Bool := [true, false, true, true, false, false, false, false]

/-- The array "0000 1111" of vector S5. -/
def bits1111 : List Bool := [false, false, false, false, true, true, true, true]

/-- The start of the example of R102: `H` = [0, 0, 1000, 2000], `cnt` = 3000; and of the example of R125:
`shifted` = 2, `mirror` = 1011 0000. -/
def busy : State :=
  { State.resetWith small with
    cnt := 3000#32, armed := true, hist := [1000#32, 2000#32, 0#32, 0#32], head := 2,
    snapOldest := 1000#32, snapCount := 2#32, mirror := bits1011, shifted := 2 }

/-- A chain with contents of its own, on the pins of an idle block. -/
def chain8 (stage out : List Bool) : Chain := { stage := stage, out := out, ser := false, sck := false, lat := true }

/-- What a test reads of an outcome. -/
def onNext (r : Host.Outcome State Fault Refusal) (p : State → Bool) : Bool :=
  match r with
  | .next t => p t
  | .fault _ => false
  | .refused _ => false

/-! WellFormed: an ill-formed term for each check. -/

theorem test_wf_small : small.wf = true := by decide
theorem test_wf_refuses_one_slot : ({ small with n := 1 } : Config).wf = false := by decide
theorem test_wf_refuses_too_many_slots : ({ small with n := 4294967296 } : Config).wf = false := by decide
theorem test_wf_refuses_no_digits : ({ small with digits := 0 } : Config).wf = false := by decide
theorem test_wf_refuses_increment_zero : ({ small with increment := 0#32 } : Config).wf = false := by decide
theorem test_wf_refuses_short_array : (Instr.srSet [true]).wf small = false := by decide
theorem test_wf_refuses_long_array : (Instr.srSet (false :: bits1011)).wf small = false := by decide
theorem test_memory_wf_refuses_wrong_size : Memory.wf 4 [0#32] = false := by decide
theorem test_mirror_wf_refuses_wrong_size : Memory.mirrorWf 8 [true] = false := by decide
theorem test_fits_refuses_wide_word : (PortWord.command (2 ^ 100)).fits small = false := by decide

/-! Decoding: one word for every operation, written out from R73, R77 and R78. -/

theorem test_decode_events : decodeEvent 0b00#2 = [] ∧ decodeEvent 0b01#2 = [.tick] ∧
    decodeEvent 0b10#2 = [.pulse] ∧ decodeEvent 0b11#2 = [.tick, .pulse] := by decide
theorem test_decode_clkInit : decodeCommand small 0b0001 = .operation .clkInit := by decide
theorem test_decode_clkNow : decodeCommand small 0b0010 = .operation .clkNow := by decide
theorem test_decode_histInit : decodeCommand small 0b0011 = .operation .histInit := by decide
theorem test_decode_rdSnap : decodeCommand small 0b0100 = .operation .rdSnap := by decide
theorem test_decode_calcRpm :
    decodeCommand small 0b00000000000000000000000000000101_00000000000000000010011100010000_00000000000000000011101010011000_0101
      = .operation (.calcRpm 15000#32 10000#32 5#32) := by decide
theorem test_decode_srSet : decodeCommand small 0b00001101_0110 = .operation (.srSet bits1011) := by decide
theorem test_decode_srShift : decodeCommand small 0b01_0111 = .operation (.srShift true false) ∧
    decodeCommand small 0b10_0111 = .operation (.srShift false true) := by decide
theorem test_decode_srLatch : decodeCommand small 0b1000 = .operation .srLatch := by decide
theorem test_decode_reserved : decodeCommand small 0x0 = .reserved 0x0#4 ∧
    decodeCommand small 0xFFFFFFFFFFFFFFFFFFFFFFFF9 = .reserved 0x9#4 := by decide
/-- Section 7 of the vectors: payload bits no format names are ignored. The table's word 0xFFD6 sets named bits
too (cmd[11:8] = 0xF); by R73 and R75 the word that sets only bits above cmd[11] is 0xF0D6: log 16. -/
theorem test_decode_ignored_bits : decodeCommand small 0xABCDEF1 = .operation .clkInit ∧
    decodeCommand small 0xF0D6 = .operation (.srSet bits1011) ∧
    decodeCommand small 0xFFD6 = .operation (.srSet [true, false, true, true, true, true, true, true]) ∧
    decodeCommand small 0x77 = .operation (.srShift true true) := by decide
/-- The words of the two ports as the host's table numbers them. -/
theorem test_decode_table_words : decodeTableWord 8 0x1 = some .tick ∧ decodeTableWord 8 0x2 = some .pulse ∧
    decodeTableWord 104 0x1 = some .clkInit ∧ decodeTableWord 8 0x8 = some .srLatch ∧
    decodeTableWord 8 0x9 = none := by decide
/-- The first operation after reset is the one placed on the port. -/
theorem test_first_operation_after_reset :
    onNext (step (State.reset.withFetchWord 104 0x1)) (fun t => t.armed && t.inputs.isEmpty) = true ∧
    onNext (step (State.reset.withFetchWord 104 0x8)) (fun t => t.isLatched && t.lat) = true := by decide
theorem test_text : (Instr.srShift true false).text = "sr.shift 1, 0" ∧
    (Instr.srSet [true, false]).text = "sr.set \"10\"" := by decide

/-! The clock: vectors K2, K5, K6, K7, K10, K11. -/

theorem test_tick_unarmed : exec .tick (State.resetWith small) = .next (State.resetWith small) := rfl
theorem test_tick_wraps :
    onNext (exec .tick { busy with cnt := 0xFFFFFFFF#32 }) (fun t => t.cnt == 0#32) = true ∧
    onNext (exec .tick { busy with cnt := 0xFFFFFFF8#32, cfg := { small with increment := 16#32 } })
      (fun t => t.cnt == 8#32) = true ∧
    onNext (exec .tick { busy with cnt := 5#32, cfg := { small with increment := 0xFFFFFFFF#32 } })
      (fun t => t.cnt == 4#32) = true := by decide
theorem test_clkInit_again : onNext (exec .clkInit { busy with cnt := 1234#32 })
    (fun t => t.cnt == 0#32 && t.armed && t.hist == busy.hist && t.snapCount == 2#32) = true := by decide
theorem test_clkNow : onNext (exec .clkNow busy)
    (fun t => t.responses == [⟨3000#32, 0#32, false⟩] && t.cnt == 3000#32) = true := by decide
theorem test_both_strobes :
    onNext (Host.Core.run core 2 { State.resetWith small with
        armed := true, cnt := 41#32, inputs := [⟨false, 0b11#2, none⟩] })
      (fun t => t.cnt == 42#32 && t.hist == [42#32, 0#32, 0#32, 0#32] && t.head == 1 && t.inputs.isEmpty) = true := by
  decide
theorem test_reserved_then_next :
    onNext (Host.Core.run core 2 { busy with inputs := [⟨false, 0b00#2, some 0xF⟩, ⟨false, 0b00#2, some 0x4⟩] })
      (fun t => t.responses == [⟨0#32, 0#32, true⟩, ⟨1000#32, 2#32, false⟩]) = true := by decide
theorem test_reset_input :
    onNext (step { busy with inputs := [⟨true, 0b11#2, some 0x8⟩] }) (fun t => decide (t = State.resetWith small))
      = true := by decide

/-! The history: the examples of R101, R102 and R103, vectors H3, H7. -/

theorem test_pulse_example : onNext (exec .pulse busy)
    (fun t => t.view == [0#32, 1000#32, 2000#32, 3000#32] && t.snapOldest == 1000#32 && t.snapCount == 3#32) = true := by
  decide
theorem test_pulse_wraps_head :
    onNext (exec .pulse { busy with hist := [500#32, 500#32, 500#32, 499#32], head := 3, cnt := 501#32 })
      (fun t => t.hist == [500#32, 500#32, 500#32, 501#32] && t.head == 0 && t.snapCount == 4#32) = true := by decide
theorem test_histInit_example : onNext (exec .histInit busy)
    (fun t => t.hist == [0#32, 0#32, 0#32, 0#32] && t.head == 0 && t.snapOldest == 0#32 && t.snapCount == 0#32 &&
      t.cnt == 3000#32) = true := by decide
theorem test_rdSnap : onNext (exec .rdSnap busy) (fun t => t.responses == [⟨1000#32, 2#32, false⟩]) = true := by decide
/-- Vectors W6, W7, W8, W11, W13, W14, W15, W18, W19, W21. -/
theorem test_window_vectors :
    window 5000#32 8000#32 [1000#32, 2000#32, 3000#32, 8000#32] = (3000#32, 2#32) ∧
    window 5000#32 6000#32 [1000#32, 2000#32, 3000#32, 6000#32] = (1000#32, 4#32) ∧
    window 5000#32 6001#32 [1000#32, 2000#32, 3000#32, 6001#32] = (2000#32, 3#32) ∧
    window 5000#32 500#32 [400#32, 500#32, 500#32, 500#32] = (400#32, 4#32) ∧
    window 5000#32 300#32 [100#32, 0#32, 200#32, 300#32] = (100#32, 4#32) ∧
    window 5000#32 0x20#32 [0xFFFFFF00#32, 0xFFFFFFF0#32, 0x10#32, 0x20#32] = (0xFFFFFF00#32, 4#32) ∧
    window 5000#32 200#32 [9000#32, 9500#32, 100#32, 200#32] = (100#32, 2#32) ∧
    window 0xFFFFFFFF#32 200#32 [9000#32, 0#32, 100#32, 200#32] = (9000#32, 4#32) ∧
    window 0xFFFFFFFF#32 200#32 [0#32, 200#32, 100#32, 200#32] = (100#32, 2#32) ∧
    window 5000#32 9000#32 [1000#32, 8000#32, 8500#32, 9000#32] = (8000#32, 3#32) := by decide

/-! The rate: vectors C1, C4 to C8, C10, C12 to C16, C20 to C22. -/

theorem test_rate_vectors :
    rate 15000#32 10000#32 5#32 = 60#32 ∧ rate 12345#32 0#32 7#32 = 0#32 ∧ rate 12345#32 100#32 0#32 = 0#32 ∧
    rate 0#32 0#32 5#32 = 0#32 ∧ rate 1000#32 1000#32 2#32 = 0xFFFFFFFF#32 ∧ rate 1000#32 1001#32 2#32 = 0#32 ∧
    rate 5#32 0xFFFFFFFB#32 2#32 = 12000#32 ∧ rate 60001#32 1#32 1#32 = 1#32 ∧ rate 60002#32 1#32 1#32 = 0#32 ∧
    rate 2#32 1#32 71582#32 = 0xFFFF4740#32 ∧ rate 2#32 1#32 71583#32 = 0xFFFFFFFF#32 ∧
    rate 2#32 1#32 0xFFFFFFFF#32 = 0xFFFFFFFF#32 ∧ rate 0x80000000#32 0x7FFFFFFF#32 1#32 = 60000#32 ∧
    rate 10007#32 10000#32 1#32 = 8571#32 ∧ rate 10000#32 15000#32 5#32 = 0#32 := by decide
theorem test_calcRpm_response : onNext (exec (.calcRpm 15000#32 10000#32 5#32) busy)
    (fun t => t.responses == [⟨60#32, 0#32, false⟩]) = true := by decide
theorem test_response_word : (Response.word ⟨1#32, 2#32, true⟩) = 0x10000000200000001#65 := by decide

/-! The serializer: the examples of R125, R126 and R127, vectors S1, S4, S5, S6. -/

theorem test_srShift_example : onNext (exec (.srShift true true) busy)
    (fun t => t.mirror == [true, true, false, true, true, false, false, false] && t.shifted == 3 &&
      !t.isLatched && t.trace.length == 7) = true := by decide
theorem test_srShift_latches : onNext (exec (.srShift true true) { busy with shifted := 7 })
    (fun t => t.mirror == bits1011 && t.shifted == 0 && t.isLatched && t.trace.length == 10) = true := by decide
theorem test_srSet_aligned : onNext (exec (.srSet bits1011) (State.resetWith small))
    (fun t => t.mirror == bits1011 && t.shifted == 0 && t.isLatched && t.trace.length == 59 &&
      ((chain8 bits1111 bits1111).run t.trace).out == bits1011) = true := by decide
/-- Vector S5 from its third command on: the stage is 11101100, the outputs are 10110000, the count is 2. -/
theorem test_srSet_misaligned : onNext (exec (.srSet bits1111) busy)
    (fun t => t.mirror == bits1111 && t.shifted == 2 && !t.isLatched &&
      ((chain8 [true, true, true, false, true, true, false, false] bits1011).run t.trace).out ==
        [false, false, true, true, true, true, true, true]) = true := by decide
theorem test_srLatch_keeps_or_clears_count :
    onNext (exec .srLatch busy) (fun t => t.shifted == 2 && t.isLatched) = true ∧
    onNext (exec .srLatch { busy with cfg := { small with latchClearsCount := true } })
      (fun t => t.shifted == 0 && t.isLatched) = true := by decide

/-! A witness for every statement with hypotheses, each clause at a boundary of its range. -/

theorem busy_inv : busy.Inv :=
  ⟨by decide, by decide, by decide, by decide, by decide, by decide, by decide, by decide⟩

theorem reset_small_inv : (State.resetWith small).Inv :=
  ⟨by decide, by decide, by decide, by decide, by decide, by decide, by decide, by decide⟩

theorem witness_DecodeEncodeRoundTrip : (Instr.srSet bits1011).wf small = true := by decide
theorem witness_EncodedWordFitsItsPort : (Instr.calcRpm 0xFFFFFFFF#32 0#32 0xFFFFFFFF#32).wf small = true := by decide
theorem witness_OpcodeMapOfCommandPort : 9 ≤ (0x9#4).toNat ∧ 9 ≤ (0xF#4).toNat := by decide
theorem witness_OperandFieldsBitByBit :
    0x50000271000003A985 % 16 = 5 ∧ 0xD6 % 16 = 6 ∧ 0x37 % 16 = 7 := by decide
theorem witness_UnnamedPayloadBitsAreIgnored :
    0xF0D6 % 2 ^ namedBits small (0xF0D6 % 16) = 0xD6 % 2 ^ namedBits small (0xF0D6 % 16) ∧
    (0x77 % 2 ^ namedBits small (0x77 % 16) = 0x37 % 2 ^ namedBits small (0x77 % 16)) ∧
    (Instr.srSet bits1011).wf small = true ∧ encode (.srSet bits1011) = .command 0xD6 := by decide
theorem witness_EachOperationOnItsOwnPortOnly :
    Decoded.operation .pulse ∈ decode small (.event 0b11#2) ∧
    Decoded.operation .srLatch ∈ decode small (.command 0x8) := by decide
theorem witness_StepRunsDecodedOperation_command :
    ({ busy with inputs := [⟨false, 0b00#2, some 0x2⟩] } : State).inputs = ⟨false, 0b00#2, some 0x2⟩ :: [] ∧
    decodeCommand small 0x2 = .operation .clkNow := by decide
theorem witness_StepRunsDecodedOperation_event :
    ({ busy with inputs := [⟨false, 0b11#2, none⟩] } : State).inputs = ⟨false, 0b11#2, none⟩ :: [] ∧
    decodeEvent 0b11#2 = .tick :: [.pulse] ∧ decodeEvent 0b10#2 = .pulse :: [] := by decide
theorem witness_EncodedOperationRunsNext : (Instr.srSet bits1011).wf busy.cfg = true := by decide
theorem witness_SameCycleTickThenPulseThenCommand :
    ({ busy with inputs := [⟨false, 0b11#2, some 0x4⟩] } : State).inputs = ⟨false, 0b11#2, some 0x4⟩ :: [] ∧
    decodeCommand busy.cfg 0x4 = .operation .rdSnap := by decide
theorem witness_SameCyclePulseSeesTheTick :
    ∃ s : State, s.Inv ∧ s.armed = true ∧ s.inputs = ⟨false, 0b11#2, none⟩ :: [] :=
  ⟨{ busy with inputs := [⟨false, 0b11#2, none⟩] },
    ⟨by decide, by decide, by decide, by decide, by decide, by decide, by decide, by decide⟩, rfl, rfl⟩
theorem witness_ReservedOpcodeIsAnsweredWithErr :
    ({ busy with inputs := [⟨false, 0b00#2, some 0x9⟩] } : State).inputs = ⟨false, 0b00#2, some 0x9⟩ :: [] ∧
    (0x10 % 16 = 0) ∧ 9 ≤ 0x9 % 16 ∧ 9 ≤ 0xFF % 16 := by decide
theorem witness_NoInputChangesNothing : busy.inputs = [] ∧
    ({ busy with inputs := [⟨false, 0b00#2, none⟩] } : State).inputs = ⟨false, 0b00#2, none⟩ :: [] := by decide
theorem witness_ResetInputRestoresTheResetState :
    ({ busy with inputs := [⟨true, 0b11#2, some 0x8⟩] } : State).inputs = ⟨true, 0b11#2, some 0x8⟩ :: [] := by decide
theorem witness_ResetMeetsTheInvariant : ({ small with n := 2 } : Config).wf = true ∧
    ({ small with n := 4294967295 } : Config).wf = true := by decide
theorem witness_EveryStepKeepsTheInvariant : ∃ t, busy.Inv ∧ step busy = .next t := ⟨_, busy_inv, rfl⟩
theorem witness_EveryRunCompletesWithinTheInvariant : busy.Inv := busy_inv
theorem witness_NoStepChangesAParameter : ∃ t, step (busy.withFetchWord 8 0x2) = .next t := ⟨_, rfl⟩
theorem witness_CountingLaw : Instr.clkInit ∉ [Instr.tick, .pulse, .histInit, .tick, .srLatch] := by decide
theorem witness_NoOperationDisarmsTheClock : busy.armed = true := by decide
theorem witness_AtShorthandReachesItsTarget : busy.armed = true ∧
    ticksTo busy.cfg busy.cnt 3000#32 = some 0 ∧ ticksTo busy.cfg busy.cnt 3001#32 = some 1 := by decide
theorem witness_PulseInsertsAndRescans :
    (State.resetWith small).hist.length = small.n ∧ (State.resetWith small).head < small.n ∧
    ({ busy with head := 3 } : State).hist.length = small.n ∧ ({ busy with head := 3 } : State).head < small.n := by
  decide
theorem witness_FifoLaw : busy.hist.length = busy.cfg.n ∧ busy.head < busy.cfg.n ∧
    Instr.histInit ∉ [Instr.pulse, .tick, .pulse, .clkInit, .pulse] := by decide
theorem witness_SnapshotChangesOnlyWithPulseOrInit :
    Instr.pulse ∉ [Instr.tick, .clkInit, .rdSnap] ∧ Instr.histInit ∉ [Instr.tick, .clkInit, .rdSnap] := by decide
theorem witness_StoredSnapshotBounds : busy.Inv ∧ busy.snapCount ≠ 0#32 := ⟨busy_inv, by decide⟩
theorem witness_PulseBeforeClkInitIsInvisible :
    (State.resetWith small).Inv ∧ (State.resetWith small).armed = false := ⟨reset_small_inv, rfl⟩
theorem witness_WindowStartsAtTheOldestFreshSlot_hit :
    [1000#32, 2000#32, 6001#32][1]? = some 2000#32 ∧ isFreshSlot 5000#32 6001#32 2000#32 ∧
    ¬ isFreshSlot 5000#32 6001#32 1000#32 ∧ isFreshSlot 5000#32 6000#32 1000#32 := by
  unfold isFreshSlot; decide
theorem witness_WindowStartsAtTheOldestFreshSlot_none :
    ∀ u ∈ [0#32, 500#32], ¬ isFreshSlot 5000#32 500#32 u := by
  simp [isFreshSlot]
theorem witness_WindowExtremeCases : [400#32, 500#32].length < 4294967295 := by
  show 2 < 4294967295; omega
theorem witness_RateIsExactUpToCount71582 : (1#32 : Word) ≠ 0#32 ∧ (2#32 : Word) ≠ 1#32 ∧ (71582#32 : Word) ≠ 0#32 ∧
    (71582#32 : Word).toNat ≤ 71582 ∧ (1#32 : Word).toNat ≤ 71582 := by decide
theorem witness_WindowOfAPulseHasElapsedTime :
    busy.Inv ∧ onNext (exec .pulse busy) (fun t => t.snapCount != 0#32) = true := ⟨busy_inv, by decide⟩
theorem witness_RotationInsertsAtTheFront : 0 < bits1011.length ∧ 1 ≤ 7 ∧ 7 < bits1011.length := by decide
theorem witness_SrSetSendsTheArrayInReverse : bits1011.length = small.l ∧
    (State.resetWith small).shifted < small.l ∧ ({ busy with shifted := 7 } : State).shifted < small.l := by decide
theorem witness_OneLatchInEveryLShifts : ({ busy with shifted := 7 } : State).shifted < small.l ∧
    (bits1011.map fun b => (b, true)).length = small.l := by decide
theorem witness_AlignedSrSetTrace : bits1011.length = small.l ∧ 0 < small.l ∧
    (State.resetWith small).shifted = 0 := by decide
theorem witness_AlignedSrSetShowsTheArray : bits1011.length = small.l ∧ 0 < small.l ∧
    (State.resetWith small).shifted = 0 ∧ (State.resetWith small).sck = false ∧ (State.resetWith small).lat = true ∧
    (chain8 bits1111 bits1111).attached (State.resetWith small) := by
  unfold Chain.attached; decide
theorem witness_MisalignedSrSetShowsATornFrame : bits1011.length = busy.cfg.l ∧ 0 < busy.shifted ∧
    busy.shifted < busy.cfg.l ∧ busy.sck = false ∧ busy.lat = true ∧ (chain8 bits1111 bits1111).attached busy := by
  unfold Chain.attached; decide
theorem witness_MisalignedSrSetShowsATornFrame_ends : 0 < ({ busy with shifted := 1 } : State).shifted ∧
    ({ busy with shifted := 7 } : State).shifted < small.l := by decide
theorem witness_MirrorTracksTheStage : busy.sck = false ∧ busy.lat = true ∧
    (chain8 bits1011 bits1111).attached busy ∧ busy.mirror = (chain8 bits1011 bits1111).stage ∧
    busy.shifted + 1 ≠ busy.cfg.l ∧ ({ busy with shifted := 7 } : State).shifted + 1 = busy.cfg.l := by
  unfold Chain.attached; decide
theorem witness_SrLatchShowsTheStage : (chain8 bits1111 bits1011).attached busy := by
  unfold Chain.attached; decide
theorem witness_OneResponsePerCommand : (0#4 : BitVec 4) = 0#4 ∧ 9 ≤ (0x9#4).toNat ∧ 9 ≤ (0xF#4).toNat := by decide
theorem witness_EachOperationChangesOnlyItsFields : (0 : Nat) ≠ busy.head ∧
    Instr.clkNow ∈ [Instr.clkNow, .rdSnap, .calcRpm 0#32 0#32 0#32] ∧
    Instr.srLatch ∈ [Instr.srSet bits1011, .srShift true true, .srLatch] := by decide
theorem witness_TraceGrowsOnlyBySerializer :
    (∀ bits, Instr.tick ≠ .srSet bits) ∧ (∀ bit um, Instr.tick ≠ .srShift bit um) ∧ Instr.tick ≠ .srLatch := by
  simp
theorem witness_EventsCommuteWithSerializerOperations : Instr.pulse ∈ [Instr.tick, .pulse] ∧
    Instr.srSet bits1011 ∈ [Instr.srSet bits1011, .srShift true true, .srLatch] := by decide
theorem witness_ClockSideAndSerializerSideAreIndependent :
    sameClockSide busy { busy with mirror := bits1111, shifted := 5 } ∧
    sameSerializerSide busy { busy with cnt := 7#32, armed := false } := by
  unfold sameClockSide sameSerializerSide; decide

end Sys2Proof.Tests
end

section
/-! PROOFS. The two memories after reset, and R42's table (10_state.md). -/

namespace Sys2Proof.Machine

/-- Reset leaves HIST as HIST_INIT does: cleared. -/
@[simp] theorem State.resetWith_hist (cfg : Config) : (State.resetWith cfg).hist = histClear cfg.n := rfl

@[simp] theorem State.resetWith_mirror (cfg : Config) :
    (State.resetWith cfg).mirror = List.replicate cfg.l false := rfl

/-- The only word a cleared history holds is the sentinel. -/
theorem eq_zero_of_mem_histClear {n : Nat} {t : Word} (ht : t ∈ histClear n) : t = 0#32 :=
  List.eq_of_mem_replicate ht

/-- Settles O15, row by row: a field that is no memory has its value by the definition of the reset state, the
sizes of the memories are their forms after reset, and their contents are those of a cleared memory. -/
theorem resetValuesOfEveryField : Obligations.ResetValuesOfEveryField := by
  unfold Obligations.ResetValuesOfEveryField
  refine ⟨fun cfg => ?_, Config.machine, rfl⟩
  obtain ⟨histWf, mirrorWf⟩ := resetWith_memories_wf cfg
  have histSize := (Memory.wf_iff _ _).1 histWf
  have mirrorSize := (Memory.mirrorWf_iff _ _).1 mirrorWf
  have histZero : ∀ t ∈ (State.resetWith cfg).hist, t = 0#32 := by
    rw [State.resetWith_hist]
    exact fun _ => eq_zero_of_mem_histClear
  have mirrorZero : ∀ b ∈ (State.resetWith cfg).mirror, b = false := by
    rw [State.resetWith_mirror]
    exact fun _ => List.eq_of_mem_replicate
  exact ⟨rfl, rfl, histSize, histZero, rfl, rfl, rfl, mirrorSize, mirrorZero, rfl, rfl, rfl, rfl, rfl, rfl⟩

end Sys2Proof.Machine
end

section
/-! PROOFS. The decoder of the command port, opcode by opcode (30_encoding.md R77, R79). -/

namespace Sys2Proof

variable {cfg : Config} {w : Nat}

/-- `cmd[3:0]` (R77) is the word modulo 16. -/
theorem bitField_opcode (w : Nat) : bitField w 0 4 = w % 16 := rfl

theorem decodeCommand_clkInit (h : w % 16 = 1) : decodeCommand cfg w = .operation .clkInit := by
  simp only [decodeCommand, bitField_opcode, h]

theorem decodeCommand_clkNow (h : w % 16 = 2) : decodeCommand cfg w = .operation .clkNow := by
  simp only [decodeCommand, bitField_opcode, h]

theorem decodeCommand_histInit (h : w % 16 = 3) : decodeCommand cfg w = .operation .histInit := by
  simp only [decodeCommand, bitField_opcode, h]

theorem decodeCommand_rdSnap (h : w % 16 = 4) : decodeCommand cfg w = .operation .rdSnap := by
  simp only [decodeCommand, bitField_opcode, h]

theorem decodeCommand_calcRpm (h : w % 16 = 5) :
    decodeCommand cfg w = .operation (.calcRpm (wordField w 4) (wordField w 36) (wordField w 68)) := by
  simp only [decodeCommand, bitField_opcode, h]

theorem decodeCommand_srSet (h : w % 16 = 6) :
    decodeCommand cfg w = .operation (.srSet (arrayField w cfg.l)) := by
  simp only [decodeCommand, bitField_opcode, h]

theorem decodeCommand_srShift (h : w % 16 = 7) :
    decodeCommand cfg w = .operation (.srShift (w.testBit 4) (w.testBit 5)) := by
  simp only [decodeCommand, bitField_opcode, h]

theorem decodeCommand_srLatch (h : w % 16 = 8) : decodeCommand cfg w = .operation .srLatch := by
  simp only [decodeCommand, bitField_opcode, h]

/-- An opcode outside 1 .. 8 is reserved (R79). -/
theorem decodeCommand_reserved (h : w % 16 = 0 ∨ 9 ≤ w % 16) :
    decodeCommand cfg w = .reserved (BitVec.ofNat 4 (w % 16)) := by
  simp only [decodeCommand, bitField_opcode]
  split
  case h_9 => rfl
  all_goals omega

/-- The payload above an opcode leaves the opcode alone. -/
theorem opcode_under_payload {op : Nat} (p : Nat) (h : op < 16) : (16 * p + op) % 16 = op := by
  rw [Nat.mul_add_mod, Nat.mod_eq_of_lt h]

/-- Settles O3, one opcode at a time: the word `16 * p + op` has the opcode `op`, and the decoder's equation for
that opcode says what the word selects. -/
theorem opcodeMapOfCommandPort : Obligations.OpcodeMapOfCommandPort := by
  unfold Obligations.OpcodeMapOfCommandPort
  intro cfg p
  have reserved (op : BitVec 4) (h : op.toNat = 0 ∨ 9 ≤ op.toNat) :
      decodeCommand cfg (16 * p + op.toNat) = .reserved op := by
    have hop := opcode_under_payload p op.isLt
    rw [decodeCommand_reserved (by rwa [hop]), hop, BitVec.ofNat_toNat, BitVec.setWidth_eq]
  refine ⟨decodeCommand_clkInit ?_, decodeCommand_clkNow ?_, decodeCommand_histInit ?_, decodeCommand_rdSnap ?_,
    ⟨_, _, _, decodeCommand_calcRpm ?_⟩, ⟨_, decodeCommand_srSet ?_⟩, ⟨_, _, decodeCommand_srShift ?_⟩,
    decodeCommand_srLatch ?_, reserved 0x0#4 (.inl rfl), fun op h => reserved op (.inr h)⟩
  all_goals exact opcode_under_payload p (by decide)

end Sys2Proof
end

section
/-! PROOFS. The clock: TICK, CLK_INIT and CLK_NOW (40_clock.md R91 to R93). -/

namespace Sys2Proof.Machine

variable {s : State}

/-- The wrapping sum (R13), over the unsigned values of the two words. -/
theorem add32_eq_ofNat (a b : Word) : add32 a b = BitVec.ofNat 32 (a.toNat + b.toNat) :=
  BitVec.add_def a b

/-- TICK on an armed clock (R91). -/
theorem exec_tick_of_armed (h : s.armed = true) :
    exec .tick s = .next (s.setCnt (add32 s.cnt s.cfg.increment)) := by
  simp only [exec, execTick, if_pos h]

/-- TICK on a clock that is not armed (R91). -/
theorem exec_tick_of_not_armed (h : ¬ s.armed = true) : exec .tick s = .next s := by
  simp only [exec, execTick, if_neg h]

/-- CLK_INIT (R92): two writes and a response of zeros. -/
theorem exec_clkInit (s : State) :
    exec .clkInit s = .next (((s.setCnt 0#32).setArmed true).respond ⟨0#32, 0#32, false⟩) := rfl

/-- CLK_NOW (R93): a response and no write. -/
theorem exec_clkNow (s : State) : exec .clkNow s = .next (s.respond ⟨s.cnt, 0#32, false⟩) := rfl

/-- Settles O22, by whether the clock is armed; the strobes are decoded by evaluation. -/
theorem tickAddsIncrementWhileArmed : Obligations.TickAddsIncrementWhileArmed := by
  unfold Obligations.TickAddsIncrementWhileArmed
  refine ⟨fun s => ?_, by decide, by decide⟩
  by_cases h : s.armed = true
  · rw [exec_tick_of_armed h, if_pos h, add32_eq_ofNat, State.setCnt]
  · rw [exec_tick_of_not_armed h, if_neg h]

/-- Settles O23: the writes of `exec_clkInit` are the fields the statement names, and the decoder's equation for
opcode 1 holds under every payload. -/
theorem clkInitZeroesAndArms : Obligations.ClkInitZeroesAndArms := by
  unfold Obligations.ClkInitZeroesAndArms
  intro s p
  constructor
  · rw [exec_clkInit, State.setCnt, State.setArmed, State.respond]
  · exact decodeCommand_clkInit (opcode_under_payload p (by decide))

/-- Settles O24: the response of `exec_clkNow` is the only change, and the decoder's equation for opcode 2 holds
under every payload. -/
theorem clkNowReturnsTheCounter : Obligations.ClkNowReturnsTheCounter := by
  unfold Obligations.ClkNowReturnsTheCounter
  intro s p
  constructor
  · rw [exec_clkNow, State.respond]
  · exact decodeCommand_clkNow (opcode_under_payload p (by decide))

end Sys2Proof.Machine
end

section
/-! PROOFS. The history: HIST_INIT, PULSE and RD_SNAP (41_history.md R101 to R103). -/

namespace Sys2Proof.Machine

/-- HIST_INIT (R101): two writes and a response of zeros. -/
theorem exec_histInit (s : State) :
    exec .histInit s =
      .next (((s.setHist (histClear s.cfg.n) 0).setSnapshot (0#32, 0#32)).respond ⟨0#32, 0#32, false⟩) := rfl

/-- PULSE (R102): the insertion, then the scan of the view as it stands after it. -/
theorem exec_pulse (s : State) : exec .pulse s = .next ((s.insert s.cnt).rescan s.cnt) := rfl

/-- RD_SNAP (R103): a response and no write. -/
theorem exec_rdSnap (s : State) :
    exec .rdSnap s = .next (s.respond ⟨s.snapOldest, s.snapCount, false⟩) := rfl

/-- Storing a snapshot leaves the logical view alone. -/
@[simp] theorem State.view_rescan (s : State) (c : Word) : (s.rescan c).view = s.view := rfl

/-- The logical view after an insertion: the oldest slot is gone and the new value is the newest (R24, R26). -/
theorem State.view_insert {s : State} (c : Word) (histSize : s.hist.length = s.cfg.n)
    (headRange : s.head < s.cfg.n) : (s.insert c).view = s.view.drop 1 ++ [c] :=
  histView_insert c histSize headRange

/-- The fields that an insertion and the scan after it write, the scanned view given by the view before. -/
theorem State.rescan_insert {s : State} (c : Word) (histSize : s.hist.length = s.cfg.n)
    (headRange : s.head < s.cfg.n) :
    (s.insert c).rescan c =
      (s.setHist (s.hist.set s.head c) ((s.head + 1) % s.cfg.n)).setSnapshot
        (window s.cfg.maxStaleness c (s.view.drop 1 ++ [c])) := by
  rw [State.rescan, State.view_insert c histSize headRange, State.insert, State.setHist_cfg, histWrite]

/-- Settles O29: PULSE is the insertion and the scan after it. Its fields are those of `State.rescan_insert`, its
view is that of the insertion, and the strobes are decoded by evaluation. -/
theorem pulseInsertsAndRescans : Obligations.PulseInsertsAndRescans := by
  unfold Obligations.PulseInsertsAndRescans
  refine ⟨fun s histSize headRange => ⟨_, exec_pulse s, ?_, ?_⟩, by decide, by decide⟩
  · rw [State.rescan_insert s.cnt histSize headRange, State.setHist, State.setSnapshot]
  · rw [State.view_rescan, State.view_insert s.cnt histSize headRange]

/-- Settles O28: the writes of `exec_histInit` are the fields the statement names, and the decoder's equation for
opcode 3 holds under every payload. -/
theorem histInitClearsTheHistory : Obligations.HistInitClearsTheHistory := by
  unfold Obligations.HistInitClearsTheHistory
  intro s p
  constructor
  · rw [exec_histInit, State.setHist, State.setSnapshot, State.respond, histClear, sentinel]
  · exact decodeCommand_histInit (opcode_under_payload p (by decide))

/-- Settles O30: the response of `exec_rdSnap` is the only change, and the decoder's equation for opcode 4 holds
under every payload. -/
theorem rdSnapReturnsTheStoredPair : Obligations.RdSnapReturnsTheStoredPair := by
  unfold Obligations.RdSnapReturnsTheStoredPair
  intro s p
  constructor
  · rw [exec_rdSnap, State.respond]
  · exact decodeCommand_rdSnap (opcode_under_payload p (by decide))

end Sys2Proof.Machine
end

section
/-! PROOFS. The window scan (42_rate.md R111, R112). -/

namespace Sys2Proof.Machine

/-- The wrapping difference (R13), over the unsigned values of the two words. -/
theorem toNat_sub32 (a b : Word) : (sub32 a b).toNat = (a.toNat + 2 ^ 32 - b.toNat) % 2 ^ 32 := by
  rw [sub32, BitVec.toNat_sub, ← Nat.sub_add_comm b.isLt.le, Nat.add_comm a.toNat]

/-- The scan's test is the freshness of R111, its age taken over the integers modulo 2^32. -/
theorem fresh_iff_isFreshSlot (bound c t : Word) : fresh bound c t = true ↔ isFreshSlot bound c t := by
  rw [fresh_iff, BitVec.le_def, toNat_sub32, isFreshSlot]

theorem fresh_eq_false_iff (bound c t : Word) : fresh bound c t = false ↔ ¬ isFreshSlot bound c t := by
  rw [← fresh_iff_isFreshSlot, Bool.not_eq_true]

/-- The scan passes over slots that are not fresh. -/
theorem window_append_of_stale {bound c : Word} {older : List Word} (newer : List Word)
    (stale : ∀ u ∈ older, ¬ isFreshSlot bound c u) : window bound c (older ++ newer) = window bound c newer := by
  induction older with
  | nil => rfl
  | cons u older ih =>
    obtain ⟨staleHead, staleTail⟩ := List.forall_mem_cons.1 stale
    rw [List.cons_append, window_skip _ ((fresh_eq_false_iff bound c u).2 staleHead), ih staleTail]

/-- Settles O35. The scan passes over the slots before the first fresh one, at which it stops: the slots from `k` on
are `hs.length - k`. Where no slot is fresh it passes over all of them. -/
theorem windowStartsAtTheOldestFreshSlot : Obligations.WindowStartsAtTheOldestFreshSlot := by
  unfold Obligations.WindowStartsAtTheOldestFreshSlot
  refine ⟨fun bound c hs k t hit isFresh stale => ?_, fun bound c hs stale => ?_⟩
  · obtain ⟨inRange, slot⟩ := List.getElem?_eq_some_iff.1 hit
    have splitAtHit : hs = hs.take k ++ t :: hs.drop (k + 1) := by
      rw [← slot, List.getElem_cons_drop, List.take_append_drop]
    have staleBefore : ∀ u ∈ hs.take k, ¬ isFreshSlot bound c u := by
      intro u hu
      obtain ⟨j, hj, rfl⟩ := List.mem_take_iff_getElem.1 hu
      exact stale j _ (by omega) (List.getElem?_eq_getElem _)
    have slotsFromHit : (hs.drop (k + 1)).length + 1 = hs.length - k := by
      rw [List.length_drop]
      omega
    calc window bound c hs
      _ = window bound c (hs.take k ++ t :: hs.drop (k + 1)) := by rw [← splitAtHit]
      _ = window bound c (t :: hs.drop (k + 1)) := window_append_of_stale _ staleBefore
      _ = (t, BitVec.ofNat 32 ((hs.drop (k + 1)).length + 1)) :=
        window_hit _ ((fresh_iff_isFreshSlot bound c t).2 isFresh)
      _ = (t, BitVec.ofNat 32 (hs.length - k)) := by rw [slotsFromHit]
  · have scanned := window_append_of_stale [] stale
    rwa [List.append_nil, window_nil] at scanned

end Sys2Proof.Machine
end

section
/-! PROOFS. CALC_RPM: its operands and its rate (30_encoding.md R73, 42_rate.md R114 to R117). -/

namespace Sys2Proof

/-- A 32-bit field is the word shifted down, the rest cut off by the width of the operand. -/
theorem wordField_eq_ofNat (w lo : Nat) : wordField w lo = BitVec.ofNat 32 (w / 2 ^ lo) := by
  rw [wordField, bitField, Nat.shiftRight_eq_div_pow, ← BitVec.toNat_inj, BitVec.toNat_ofNat, BitVec.toNat_ofNat,
    Nat.mod_mod]

/-- A 32-bit field above the opcode is a field of the payload. -/
theorem wordField_payload {op : Nat} (p lo : Nat) (h : op < 16) :
    wordField (16 * p + op) (4 + lo) = BitVec.ofNat 32 (p / 2 ^ lo) := by
  have payload : (16 * p + op) / 2 ^ 4 = p := by omega
  rw [wordField_eq_ofNat, Nat.pow_add, ← Nat.div_div_eq_div_mul, payload]

namespace Machine

/-- CALC_RPM (R114): a response and no write. -/
theorem exec_calcRpm (a b c : Word) (s : State) :
    exec (.calcRpm a b c) s = .next (s.respond ⟨rate a b c, 0#32, false⟩) := rfl

/-- The rate over the integers: the conditions on words are those on their values, and the words of the branches
are those of R114, R116 and R117. -/
theorem rate_eq_ofNat (a b c : Word) :
    rate a b c = BitVec.ofNat 32
      (if (sub32 a b).toNat = a.toNat ∨ c.toNat = 0 then 0
       else if (sub32 a b).toNat = 0 then 2 ^ 32 - 1
       else min (60000 * c.toNat / (sub32 a b).toNat) (2 ^ 32 - 1)) := by
  have noWindow : (sub32 a b = a ∨ c = 0#32) ↔ ((sub32 a b).toNat = a.toNat ∨ c.toNat = 0) :=
    or_congr BitVec.toNat_inj.symm BitVec.toNat_inj.symm
  have noTime : sub32 a b = 0#32 ↔ (sub32 a b).toNat = 0 := BitVec.toNat_inj.symm
  rw [apply_ite (BitVec.ofNat 32), apply_ite (BitVec.ofNat 32)]
  exact ite_congr (propext noWindow) (fun _ => rfl) fun _ =>
    ite_congr (propext noTime) (fun _ => rfl) fun _ => rfl

/-- Settles O37: the response of `exec_calcRpm` is the only change and holds the rate over the integers; each
operand is the field of the payload 4 bits below its place in the word. -/
theorem calcRpmComputesTheRate : Obligations.CalcRpmComputesTheRate := by
  unfold Obligations.CalcRpmComputesTheRate
  refine ⟨fun s a b c => ?_, fun cfg p => ?_⟩
  · rw [exec_calcRpm, State.respond, rate_eq_ofNat, toNat_sub32]
  · have opcode : 5 < 16 := by decide
    rw [decodeCommand_calcRpm (opcode_under_payload p opcode), wordField_payload p 0 opcode,
      wordField_payload p 32 opcode, wordField_payload p 64 opcode, Nat.pow_zero, Nat.div_one]

end Machine
end Sys2Proof
end

section
/-! PROOFS. The payload bits of formats A and B (30_encoding.md R73, R75). -/

namespace Sys2Proof

/-- A bit above the opcode is a bit of the payload. -/
theorem testBit_payload {op : Nat} (p j : Nat) (h : op < 16) : (16 * p + op).testBit (4 + j) = p.testBit j := by
  rw [Nat.testBit_two_pow_mul_add (i := 4) p h, if_neg (by omega), Nat.add_sub_cancel_left]

/-- The array operand above the opcode is the low bits of the payload. -/
theorem arrayField_payload {op : Nat} (p l : Nat) (h : op < 16) :
    arrayField (16 * p + op) l = (List.range l).map fun j => p.testBit j :=
  List.map_congr_left fun j _ => testBit_payload p j h

end Sys2Proof
end

section
/-! PROOFS. The serializer: SR_SHIFT, SR_SET and SR_LATCH (43_shift_register.md R125 to R128). -/

namespace Sys2Proof.Machine

/-- A rotation is the new bit before all but the last of the old ones. -/
theorem rotIn_eq_cons {m : List Bool} (b : Bool) (h : m ≠ []) : rotIn m b = b :: m.dropLast :=
  List.dropLast_cons_of_ne_nil h

/-- Settles O43: the new bit stands before all but the last of the old ones, so that each of these is found one
place up. -/
theorem rotationInsertsAtTheFront : Obligations.RotationInsertsAtTheFront := by
  unfold Obligations.RotationInsertsAtTheFront
  refine fun m b => ⟨rotIn_length m b, fun nonempty => ?_, fun j hj inRange => ?_⟩
  · rw [rotIn_eq_cons b (List.ne_nil_of_length_pos nonempty), List.getElem?_cons_zero]
  · obtain ⟨i, rfl⟩ := Nat.exists_eq_add_of_le' hj
    have kept : i < m.length - 1 := by omega
    rw [rotIn_eq_cons b (List.ne_nil_of_length_pos (by omega)), List.getElem?_cons_succ, List.getElem?_dropLast,
      if_pos kept, Nat.add_sub_cancel]

@[simp] theorem State.latchPulse_cfg (s : State) : s.latchPulse.cfg = s.cfg := by
  rw [State.latchPulse_eq]

@[simp] theorem State.latchPulse_shifted (s : State) : s.latchPulse.shifted = s.shifted := by
  rw [State.latchPulse_eq]

/-- SR_LATCH (R127): a latch pulse, a write of the count, and a response of zeros. -/
theorem exec_srLatch (s : State) :
    exec .srLatch s =
      .next ((s.latchPulse.setShifted (if s.cfg.latchClearsCount then 0 else s.shifted)).respond
        ⟨0#32, 0#32, false⟩) := by
  rw [exec, execSrLatch, State.latchPulse_cfg, State.latchPulse_shifted, State.answer]

/-- Settles O45: the pulse of `State.latchPulse_eq` and the write of the count are the fields the statement names,
and the decoder's equation for opcode 8 holds under every payload. -/
theorem srLatchMakesOnePulse : Obligations.SrLatchMakesOnePulse := by
  unfold Obligations.SrLatchMakesOnePulse
  intro s p
  constructor
  · rw [exec_srLatch, State.latchPulse_eq, State.setShifted, State.respond]
  · exact decodeCommand_srLatch (opcode_under_payload p (by decide))

/-- One shift, whole, with or without the latch pulse (R122). -/
theorem State.shift1_eq (s : State) (b : Bool) :
    s.shift1 b = ({ s with
      ser := false, sck := false, lat := if s.shifted + 1 = s.cfg.l then true else s.lat,
      shifted := if s.shifted + 1 = s.cfg.l then 0 else s.shifted + 1,
      isLatched := decide (s.shifted + 1 = s.cfg.l),
      trace := s.trace ++ shiftEvents s.cfg b ++ (if s.shifted + 1 = s.cfg.l then latchEvents s.cfg else []) },
      decide (s.shifted + 1 = s.cfg.l)) := by
  by_cases latch : s.shifted + 1 = s.cfg.l
  · rw [State.shift1_of_eq b latch]
    simp only [latch, if_true, decide_true, List.append_assoc]
  · rw [State.shift1_of_ne b latch]
    simp only [latch, if_false, decide_false, List.append_nil]

/-- SR_SHIFT (R125): a shift, a write of the mirror that may leave it as it is, and a response of zeros. -/
theorem exec_srShift (bit um : Bool) (s : State) :
    exec (.srShift bit um) s =
      .next (((s.shift1 bit).1.setMirror (if um && !(s.shift1 bit).2 then rotIn s.mirror bit else s.mirror)).respond
        ⟨0#32, 0#32, false⟩) := by
  have mirrorKept : (s.shift1 bit).1.mirror = s.mirror := by rw [State.shift1_eq]
  rw [exec, execSrShift, State.answer, mirrorKept]
  split
  · rfl
  · rw [← mirrorKept, State.setMirror]

/-- Settles O42: the shift of `State.shift1_eq` and the write of the mirror are the fields the statement names; the
operands are the two bits next above the opcode. -/
theorem srShiftShiftsOneBit : Obligations.SrShiftShiftsOneBit := by
  unfold Obligations.SrShiftShiftsOneBit
  refine ⟨fun s bit um => ?_, fun cfg p => ?_⟩
  · rw [exec_srShift, State.shift1_eq, State.setMirror, State.respond]
    simp only [decide_eq_true_eq]
  · have opcode : 7 < 16 := by decide
    rw [decodeCommand_srShift (opcode_under_payload p opcode), testBit_payload p 0 opcode, testBit_payload p 1 opcode]

/-- A run of L shifts from any count in range: the shifts up to the L-th count end in the latch pulse, and the rest,
if any, bring the count back to where it was (R126). -/
theorem State.shiftAll_of_length {s : State} {bs : List Bool} (size : bs.length = s.cfg.l)
    (shiftedRange : s.shifted < s.cfg.l) :
    s.shiftAll bs = { s with
      ser := false, sck := false, lat := true, isLatched := decide (s.shifted = 0),
      trace := s.trace ++
        ((bs.take (s.cfg.l - s.shifted)).flatMap (shiftEvents s.cfg) ++ latchEvents s.cfg ++
          (bs.drop (s.cfg.l - s.shifted)).flatMap (shiftEvents s.cfg)) } := by
  have frontSize : s.shifted + (bs.take (s.cfg.l - s.shifted)).length = s.cfg.l := by
    rw [List.length_take]
    omega
  have backSize : (bs.drop (s.cfg.l - s.shifted)).length = s.shifted := by
    rw [List.length_drop]
    omega
  have frontNonempty : bs.take (s.cfg.l - s.shifted) ≠ [] := List.ne_nil_of_length_pos (by omega)
  have splitAtLatch : s.shiftAll bs =
      (s.shiftAll (bs.take (s.cfg.l - s.shifted))).shiftAll (bs.drop (s.cfg.l - s.shifted)) := by
    rw [← State.shiftAll_append, List.take_append_drop]
  rw [splitAtLatch, State.shiftAll_of_eq frontNonempty frontSize]
  by_cases aligned : s.shifted = 0
  · have backEmpty : bs.drop (s.cfg.l - s.shifted) = [] := List.eq_nil_of_length_eq_zero (backSize.trans aligned)
    rw [backEmpty, State.shiftAll]
    simp [aligned]
  · have backNonempty : bs.drop (s.cfg.l - s.shifted) ≠ [] := List.ne_nil_of_length_pos (by omega)
    rw [State.shiftAll_of_lt backNonempty (by simpa only [Nat.zero_add, backSize] using shiftedRange)]
    simp only [aligned, backSize, Nat.zero_add, decide_false, List.append_assoc]

/-- SR_SET (R126) of an array of L elements: the shifts, last element first, a write of the mirror, and a response
of zeros. -/
theorem exec_srSet {bits : List Bool} {s : State} (size : bits.length = s.cfg.l) :
    exec (.srSet bits) s =
      .next (((s.shiftAll bits.reverse).setMirror bits).respond ⟨0#32, 0#32, false⟩) := by
  rw [exec, execSrSet, operandBits_of_length size, State.answer]

/-- Settles O44: the run of L shifts and the write of the mirror are the fields the statement names; the operand is
the L bits next above the opcode. -/
theorem srSetSendsTheArrayInReverse : Obligations.SrSetSendsTheArrayInReverse := by
  unfold Obligations.SrSetSendsTheArrayInReverse
  refine ⟨fun s bits size shiftedRange => ?_, fun cfg p => ?_⟩
  · have reverseSize : bits.reverse.length = s.cfg.l := List.length_reverse.trans size
    rw [exec_srSet size, State.shiftAll_of_length reverseSize shiftedRange, State.setMirror, State.respond]
  · have opcode : 6 < 16 := by decide
    rw [decodeCommand_srSet (opcode_under_payload p opcode), arrayField_payload p cfg.l opcode]

end Sys2Proof.Machine
end

section
/-! PROOFS. The state after one operation and after a list of operations: every operation is total
(60_exceptions.md R140, R148). -/

namespace Sys2Proof.Machine

/-- The state after one operation; `exec_eq_next` ties it to `exec`. -/
def State.after (s : State) (i : Instr) : State :=
  match exec i s with
  | .next t => t
  | .fault _ => s
  | .refused _ => s

/-- Every operation answers a next state, from every state and with every operand. -/
theorem exec_eq_next (i : Instr) (s : State) : exec i s = .next (s.after i) := by
  cases i <;> rfl

theorem State.after_of_exec {s t : State} {i : Instr} (h : exec i s = .next t) : s.after i = t :=
  Host.Outcome.next.inj ((exec_eq_next i s).symm.trans h)

/-- The state after a list of operations; `runOps_eq_next` ties it to `runOps`. -/
def State.afterAll (s : State) (ops : List Instr) : State := ops.foldl State.after s

@[simp] theorem State.afterAll_nil (s : State) : s.afterAll [] = s := rfl

@[simp] theorem State.afterAll_cons (s : State) (i : Instr) (is : List Instr) :
    s.afterAll (i :: is) = (s.after i).afterAll is := rfl

theorem runOps_eq_next (ops : List Instr) (s : State) : runOps ops s = .next (s.afterAll ops) := by
  induction ops generalizing s with
  | nil => rfl
  | cons i is ih => rw [runOps, exec_eq_next, andThen, ih, State.afterAll_cons]

/-- What each operation of a list keeps, the list keeps. -/
theorem State.afterAll_keeps {P : State → Prop} {ops : List Instr}
    (keeps : ∀ i ∈ ops, ∀ s, P s → P (s.after i)) {s : State} (start : P s) : P (s.afterAll ops) := by
  induction ops generalizing s with
  | nil => exact start
  | cons i is ih =>
    obtain ⟨keepsHead, keepsTail⟩ := List.forall_mem_cons.1 keeps
    exact ih keepsTail (keepsHead s start)

variable (s : State)

theorem State.after_tick_of_armed {s : State} (h : s.armed = true) :
    s.after .tick = s.setCnt (add32 s.cnt s.cfg.increment) := after_of_exec (exec_tick_of_armed h)

theorem State.after_tick_of_not_armed {s : State} (h : ¬ s.armed = true) : s.after .tick = s :=
  after_of_exec (exec_tick_of_not_armed h)

/-- TICK, whether or not the clock is armed, is a write of the counter (R91). -/
theorem State.after_tick :
    s.after .tick = s.setCnt (if s.armed then add32 s.cnt s.cfg.increment else s.cnt) := by
  by_cases h : s.armed = true
  · rw [after_tick_of_armed h, if_pos h]
  · rw [after_tick_of_not_armed h, if_neg h, setCnt]

theorem State.after_pulse : s.after .pulse = (s.insert s.cnt).rescan s.cnt := after_of_exec (exec_pulse s)

theorem State.after_clkInit :
    s.after .clkInit = ((s.setCnt 0#32).setArmed true).respond ⟨0#32, 0#32, false⟩ := after_of_exec (exec_clkInit s)

theorem State.after_clkNow : s.after .clkNow = s.respond ⟨s.cnt, 0#32, false⟩ := after_of_exec (exec_clkNow s)

theorem State.after_histInit :
    s.after .histInit =
      ((s.setHist (histClear s.cfg.n) 0).setSnapshot (0#32, 0#32)).respond ⟨0#32, 0#32, false⟩ :=
  after_of_exec (exec_histInit s)

theorem State.after_rdSnap : s.after .rdSnap = s.respond ⟨s.snapOldest, s.snapCount, false⟩ :=
  after_of_exec (exec_rdSnap s)

theorem State.after_calcRpm (a b c : Word) : s.after (.calcRpm a b c) = s.respond ⟨rate a b c, 0#32, false⟩ :=
  after_of_exec (exec_calcRpm a b c s)

/-- An operand of any length acts as its L elements (R75; log 14). -/
theorem State.after_srSet_operandBits (bits : List Bool) :
    s.after (.srSet bits) = s.after (.srSet (operandBits s.cfg.l bits)) := by
  refine after_of_exec ?_
  rw [← exec_eq_next, exec, exec, execSrSet, execSrSet, operandBits_of_length (operandBits_length _ _)]

theorem State.after_srSet (bits : List Bool) :
    s.after (.srSet bits) =
      ((s.shiftAll (operandBits s.cfg.l bits).reverse).setMirror (operandBits s.cfg.l bits)).respond
        ⟨0#32, 0#32, false⟩ := by
  rw [after_srSet_operandBits]
  exact after_of_exec (exec_srSet (operandBits_length _ _))

theorem State.after_srShift (bit um : Bool) :
    s.after (.srShift bit um) =
      ((s.shift1 bit).1.setMirror (if um && !(s.shift1 bit).2 then rotIn s.mirror bit else s.mirror)).respond
        ⟨0#32, 0#32, false⟩ :=
  after_of_exec (exec_srShift bit um s)

theorem State.after_srLatch :
    s.after .srLatch =
      (s.latchPulse.setShifted (if s.cfg.latchClearsCount then 0 else s.shifted)).respond ⟨0#32, 0#32, false⟩ :=
  after_of_exec (exec_srLatch s)

end Sys2Proof.Machine
end

section
/-! PROOFS. The two sides of the state: what an operation reads and writes (10_state.md section 8, R41). -/

namespace Sys2Proof

/-- The operations of the serializer (R41, R120). -/
def Instr.isSerializer : Instr → Bool
  | .srSet _ | .srShift _ _ | .srLatch => true
  | .tick | .pulse | .clkInit | .clkNow | .histInit | .rdSnap | .calcRpm _ _ _ => false

theorem isSerializer_of_mem {bits : List Bool} {bit um : Bool} {i : Instr}
    (hi : i ∈ [Instr.srSet bits, .srShift bit um, .srLatch]) : i.isSerializer = true := by
  simp only [List.mem_cons, List.not_mem_nil, or_false] at hi
  obtain rfl | rfl | rfl := hi
  all_goals rfl

namespace Machine

/-- A write of the serializer's fields, with the values they have in `u`, and of events at the end of the trace. -/
def State.writeSerializer (s u : State) (es : List PinEvent) : State :=
  { s with mirror := u.mirror, shifted := u.shifted, isLatched := u.isLatched, ser := u.ser, sck := u.sck,
           lat := u.lat, trace := s.trace ++ es }

/-- A write of the clock's, the history's and the snapshot's fields, with the values they have in `u`, and of
responses at the end of the responses. -/
def State.writeClock (s u : State) (rs : List Response) : State :=
  { s with cnt := u.cnt, armed := u.armed, hist := u.hist, head := u.head, snapOldest := u.snapOldest,
           snapCount := u.snapCount, responses := s.responses ++ rs }

/-- A function of the state that writes the serializer's fields and the trace only, and that from two states which
agree on the serializer writes the same. -/
def SerializerLocal (op : State → State) : Prop :=
  ∀ s s' : State, sameSerializerSide s s' →
    ∃ u es, op s = s.writeSerializer u es ∧ op s' = s'.writeSerializer u es

theorem sameSerializerSide_refl (s : State) : sameSerializerSide s s := ⟨rfl, rfl, rfl, rfl, rfl, rfl, rfl⟩

theorem sameClockSide_refl (s : State) : sameClockSide s s := ⟨rfl, rfl, rfl, rfl, rfl, rfl, rfl⟩

theorem sameSerializerSide.symm {s t : State} (h : sameSerializerSide s t) : sameSerializerSide t s := by
  obtain ⟨hcfg, hmirror, hshifted, hlatched, hser, hsck, hlat⟩ := h
  exact ⟨hcfg.symm, hmirror.symm, hshifted.symm, hlatched.symm, hser.symm, hsck.symm, hlat.symm⟩

theorem sameSerializerSide.trans {s t u : State} (h : sameSerializerSide s t) (h' : sameSerializerSide t u) :
    sameSerializerSide s u := by
  obtain ⟨hcfg, hmirror, hshifted, hlatched, hser, hsck, hlat⟩ := h
  rwa [sameSerializerSide, hcfg, hmirror, hshifted, hlatched, hser, hsck, hlat]

theorem sameClockSide.symm {s t : State} (h : sameClockSide s t) : sameClockSide t s := by
  obtain ⟨hcfg, hcnt, harmed, hhist, hhead, holdest, hcount⟩ := h
  exact ⟨hcfg.symm, hcnt.symm, harmed.symm, hhist.symm, hhead.symm, holdest.symm, hcount.symm⟩

theorem sameClockSide.trans {s t u : State} (h : sameClockSide s t) (h' : sameClockSide t u) :
    sameClockSide s u := by
  obtain ⟨hcfg, hcnt, harmed, hhist, hhead, holdest, hcount⟩ := h
  rwa [sameClockSide, hcfg, hcnt, harmed, hhist, hhead, holdest, hcount]

theorem sameSerializerSide_writeSerializer {s s' : State} (hcfg : s.cfg = s'.cfg) (u : State) (es es' : List PinEvent) :
    sameSerializerSide (s.writeSerializer u es) (s'.writeSerializer u es') := ⟨hcfg, rfl, rfl, rfl, rfl, rfl, rfl⟩

theorem sameClockSide_writeClock {s s' : State} (hcfg : s.cfg = s'.cfg) (u : State) (rs rs' : List Response) :
    sameClockSide (s.writeClock u rs) (s'.writeClock u rs') := ⟨hcfg, rfl, rfl, rfl, rfl, rfl, rfl⟩

theorem State.writeSerializer_writeSerializer (s u v : State) (es fs : List PinEvent) :
    (s.writeSerializer u es).writeSerializer v fs = s.writeSerializer v (es ++ fs) := by
  simp [State.writeSerializer]

theorem SerializerLocal.id : SerializerLocal (fun s => s) := by
  rintro s s' ⟨-, hmirror, hshifted, hlatched, hser, hsck, hlat⟩
  refine ⟨s, [], by simp [State.writeSerializer], ?_⟩
  simp [State.writeSerializer, hmirror, hshifted, hlatched, hser, hsck, hlat]

theorem SerializerLocal.comp {f g : State → State} (hf : SerializerLocal f) (hg : SerializerLocal g) :
    SerializerLocal (fun s => g (f s)) := by
  intro s s' same
  obtain ⟨u, es, hfs, hfs'⟩ := hf s s' same
  obtain ⟨hcfg, -⟩ := same
  obtain ⟨v, fs, hgs, hgs'⟩ := hg _ _ (sameSerializerSide_writeSerializer hcfg u es es)
  refine ⟨v, es ++ fs, ?_, ?_⟩
  · simp only [hfs, hgs, State.writeSerializer_writeSerializer]
  · simp only [hfs', hgs', State.writeSerializer_writeSerializer]

theorem serializerLocal_setMirror (m : List Bool) : SerializerLocal (fun s => s.setMirror m) := by
  rintro s s' ⟨-, -, hshifted, hlatched, hser, hsck, hlat⟩
  refine ⟨s.setMirror m, [], ?_, ?_⟩
  · simp [State.writeSerializer, State.setMirror]
  · simp [State.writeSerializer, State.setMirror, hshifted, hlatched, hser, hsck, hlat]

theorem serializerLocal_setShifted (k : Nat) : SerializerLocal (fun s => s.setShifted k) := by
  rintro s s' ⟨-, hmirror, -, hlatched, hser, hsck, hlat⟩
  refine ⟨s.setShifted k, [], ?_, ?_⟩
  · simp [State.writeSerializer, State.setShifted]
  · simp [State.writeSerializer, State.setShifted, hmirror, hlatched, hser, hsck, hlat]

/-- A latch pulse is the serializer's alone (R123). -/
theorem serializerLocal_latchPulse : SerializerLocal State.latchPulse := by
  rintro s s' ⟨hcfg, hmirror, hshifted, -, hser, hsck, -⟩
  refine ⟨s.latchPulse, latchEvents s.cfg, ?_, ?_⟩
  · simp only [State.latchPulse_eq, State.writeSerializer]
  · simp only [State.latchPulse_eq, State.writeSerializer, hcfg, hmirror, hshifted, hser, hsck]

/-- One shift is the serializer's alone (R122). -/
theorem serializerLocal_shift1 (b : Bool) : SerializerLocal (fun s => (s.shift1 b).1) := by
  rintro s s' ⟨hcfg, hmirror, hshifted, -, -, -, hlat⟩
  refine ⟨(s.shift1 b).1,
    shiftEvents s.cfg b ++ (if s.shifted + 1 = s.cfg.l then latchEvents s.cfg else []), ?_, ?_⟩
  · simp only [State.shift1_eq, State.writeSerializer, List.append_assoc]
  · simp only [State.shift1_eq, State.writeSerializer, List.append_assoc, hcfg, hmirror, hshifted, hlat]

/-- A run of shifts is the serializer's alone. -/
theorem serializerLocal_shiftAll (bs : List Bool) : SerializerLocal (fun s => s.shiftAll bs) := by
  induction bs with
  | nil => exact SerializerLocal.id
  | cons b bs ih => exact (serializerLocal_shift1 b).comp ih

/-- A serializer operation answers with zeros and otherwise writes the serializer's fields and the trace only; from
two states which agree on the serializer it writes the same. -/
theorem State.after_serializer {i : Instr} (hi : i.isSerializer = true) {s s' : State}
    (same : sameSerializerSide s s') :
    ∃ u es, s.after i = (s.writeSerializer u es).respond ⟨0#32, 0#32, false⟩ ∧
      s'.after i = (s'.writeSerializer u es).respond ⟨0#32, 0#32, false⟩ := by
  have ⟨hcfg, hmirror, hshifted, _⟩ := same
  cases i with
  | srSet bits =>
    obtain ⟨u, es, hs, hs'⟩ := ((serializerLocal_shiftAll (operandBits s.cfg.l bits).reverse).comp
      (serializerLocal_setMirror (operandBits s.cfg.l bits))) s s' same
    beta_reduce at hs hs'
    exact ⟨u, es, by rw [after_srSet, hs], by rw [after_srSet, ← hcfg, hs']⟩
  | srShift bit um =>
    have sameLatch : (s'.shift1 bit).2 = (s.shift1 bit).2 := by simp only [shift1_eq, hcfg, hshifted]
    obtain ⟨u, es, hs, hs'⟩ := ((serializerLocal_shift1 bit).comp (serializerLocal_setMirror
      (if um && !(s.shift1 bit).2 then rotIn s.mirror bit else s.mirror))) s s' same
    beta_reduce at hs hs'
    exact ⟨u, es, by rw [after_srShift, hs], by rw [after_srShift, sameLatch, ← hmirror, hs']⟩
  | srLatch =>
    obtain ⟨u, es, hs, hs'⟩ := (serializerLocal_latchPulse.comp
      (serializerLocal_setShifted (if s.cfg.latchClearsCount then 0 else s.shifted))) s s' same
    beta_reduce at hs hs'
    exact ⟨u, es, by rw [after_srLatch, hs], by rw [after_srLatch, ← hcfg, ← hshifted, hs']⟩
  | tick | pulse | clkInit | clkNow | histInit | rdSnap | calcRpm => cases hi

/-- An operation of the other families writes the clock's, the history's and the snapshot's fields and the responses
only; from two states which agree on those fields it writes the same. -/
theorem State.after_not_serializer {i : Instr} (hi : i.isSerializer = false) {s s' : State}
    (same : sameClockSide s s') :
    ∃ u rs, s.after i = s.writeClock u rs ∧ s'.after i = s'.writeClock u rs := by
  obtain ⟨hcfg, hcnt, harmed, hhist, hhead, holdest, hcount⟩ := same
  cases i with
  | tick =>
    refine ⟨s.after .tick, [], ?_, ?_⟩
    · simp only [after_tick, setCnt, writeClock, List.append_nil]
    · simp only [after_tick, setCnt, writeClock, List.append_nil, hcfg, hcnt, harmed, hhist, hhead, holdest, hcount]
  | pulse =>
    refine ⟨s.after .pulse, [], ?_, ?_⟩
    · simp only [after_pulse, insert, rescan, setHist, setSnapshot, view, writeClock, List.append_nil]
    · simp only [after_pulse, insert, rescan, setHist, setSnapshot, view, writeClock, List.append_nil, hcfg, hcnt,
        harmed, hhist, hhead]
  | clkInit =>
    refine ⟨s.after .clkInit, [⟨0#32, 0#32, false⟩], rfl, ?_⟩
    simp only [after_clkInit, setCnt, setArmed, respond, writeClock, hhist, hhead, holdest, hcount]
  | histInit =>
    refine ⟨s.after .histInit, [⟨0#32, 0#32, false⟩], rfl, ?_⟩
    simp only [after_histInit, setHist, setSnapshot, respond, writeClock, hcfg, hcnt, harmed]
  | clkNow =>
    refine ⟨s, [⟨s.cnt, 0#32, false⟩], rfl, ?_⟩
    simp only [after_clkNow, respond, writeClock, hcnt, harmed, hhist, hhead, holdest, hcount]
  | rdSnap =>
    refine ⟨s, [⟨s.snapOldest, s.snapCount, false⟩], rfl, ?_⟩
    simp only [after_rdSnap, respond, writeClock, hcnt, harmed, hhist, hhead, holdest, hcount]
  | calcRpm a b c =>
    refine ⟨s, [⟨rate a b c, 0#32, false⟩], rfl, ?_⟩
    simp only [after_calcRpm, respond, writeClock, hcnt, harmed, hhist, hhead, holdest, hcount]
  | srSet | srShift | srLatch => cases hi

/-- A serializer operation leaves the clock's side as it was (R41). -/
theorem sameClockSide_after_serializer {i : Instr} (hi : i.isSerializer = true) (s : State) :
    sameClockSide s (s.after i) := by
  obtain ⟨u, es, hs, -⟩ := State.after_serializer hi (sameSerializerSide_refl s)
  rw [hs]
  exact sameClockSide_refl s

/-- An operation of the other families leaves the serializer's side as it was (R41). -/
theorem sameSerializerSide_after_not_serializer {i : Instr} (hi : i.isSerializer = false) (s : State) :
    sameSerializerSide s (s.after i) := by
  obtain ⟨u, rs, hs, -⟩ := State.after_not_serializer hi (sameClockSide_refl s)
  rw [hs]
  exact sameSerializerSide_refl s

/-- Settles O56, by the side an operation belongs to: the same write, to both states, of its own side, and the other
side left as it was in each. -/
theorem clockSideAndSerializerSideAreIndependent : Obligations.ClockSideAndSerializerSideAreIndependent := by
  unfold Obligations.ClockSideAndSerializerSideAreIndependent
  intro s s' i
  refine ⟨_, _, exec_eq_next i s, exec_eq_next i s', fun same => ?_, fun same => ?_⟩
  · cases hi : i.isSerializer with
    | false =>
      obtain ⟨u, rs, hs, hs'⟩ := State.after_not_serializer hi same
      rw [hs, hs']
      obtain ⟨hcfg, -⟩ := same
      exact sameClockSide_writeClock hcfg u rs rs
    | true =>
      exact ((sameClockSide_after_serializer hi s).symm.trans same).trans (sameClockSide_after_serializer hi s')
  · cases hi : i.isSerializer with
    | false =>
      exact ((sameSerializerSide_after_not_serializer hi s).symm.trans same).trans
        (sameSerializerSide_after_not_serializer hi s')
    | true =>
      obtain ⟨u, es, hs, hs'⟩ := State.after_serializer hi same
      rw [hs, hs']
      obtain ⟨hcfg, -⟩ := same
      exact sameSerializerSide_writeSerializer hcfg u es es

/-- Settles O54: a serializer operation appends the events it writes, every other operation none. -/
theorem traceGrowsOnlyBySerializer : Obligations.TraceGrowsOnlyBySerializer := by
  unfold Obligations.TraceGrowsOnlyBySerializer
  intro s i
  cases hi : i.isSerializer with
  | false =>
    obtain ⟨u, rs, hs, -⟩ := State.after_not_serializer hi (sameClockSide_refl s)
    refine ⟨_, [], exec_eq_next i s, ?_, fun _ _ _ => rfl⟩
    rw [hs, List.append_nil, State.writeClock]
  | true =>
    obtain ⟨u, es, hs, -⟩ := State.after_serializer hi (sameSerializerSide_refl s)
    refine ⟨_, es, exec_eq_next i s, by rw [hs, State.respond_trace, State.writeSerializer], ?_⟩
    intro notSrSet notSrShift notSrLatch
    cases i with
    | srSet bits => exact absurd rfl (notSrSet bits)
    | srShift bit um => exact absurd rfl (notSrShift bit um)
    | srLatch => exact absurd rfl notSrLatch
    | tick | pulse | clkInit | clkNow | histInit | rdSnap | calcRpm => cases hi

/-- Settles O53: the operations of the clock, the history and the rate by their equations, the serializer's by what
they write. -/
theorem eachOperationChangesOnlyItsFields : Obligations.EachOperationChangesOnlyItsFields := by
  unfold Obligations.EachOperationChangesOnlyItsFields
  intro s
  refine ⟨⟨_, exec_eq_next .tick s, ?_⟩, ⟨_, exec_pulse s, rfl, ?_⟩, ⟨_, exec_clkInit s, rfl⟩,
    ⟨_, exec_histInit s, rfl⟩, ?_, ?_⟩
  · rw [State.after_tick, State.setCnt]
  · exact fun j hj => histRead_write_other s.hist s.cnt hj.symm
  · intro a b c i hi
    simp only [List.mem_cons, List.not_mem_nil, or_false] at hi
    obtain rfl | rfl | rfl := hi
    · exact ⟨_, exec_clkNow s, rfl⟩
    · exact ⟨_, exec_rdSnap s, rfl⟩
    · exact ⟨_, exec_calcRpm a b c s, rfl⟩
  · intro bits bit um i hi
    obtain ⟨u, es, hs, -⟩ :=
      State.after_serializer (isSerializer_of_mem hi) (sameSerializerSide_refl s)
    refine ⟨_, exec_eq_next i s, ?_⟩
    rw [hs, State.respond, State.writeSerializer]

/-- TICK and PULSE answer nothing (30_encoding.md R70). -/
theorem State.responses_after_event {e : Instr} (he : e ∈ [Instr.tick, .pulse]) (s : State) :
    (s.after e).responses = s.responses := by
  simp only [List.mem_cons, List.not_mem_nil, or_false] at he
  obtain rfl | rfl := he
  · rw [after_tick, setCnt_responses]
  · rw [after_pulse]
    rfl

/-- Settles O55. The event writes the same to the state before the serializer operation and to the one after it, and
the serializer operation to the state before the event and to the one after it; the two writes share no field. -/
theorem eventsCommuteWithSerializerOperations : Obligations.EventsCommuteWithSerializerOperations := by
  unfold Obligations.EventsCommuteWithSerializerOperations
  intro s bits bit um e he i hi
  have eventOnClock : e.isSerializer = false := by
    simp only [List.mem_cons, List.not_mem_nil, or_false] at he
    obtain rfl | rfl := he <;> rfl
  obtain ⟨u, es, hi_s, hi_clock⟩ := State.after_serializer (isSerializer_of_mem hi)
    (sameSerializerSide_after_not_serializer eventOnClock s)
  obtain ⟨v, rs, he_s, he_serializer⟩ := State.after_not_serializer eventOnClock
    (sameClockSide_after_serializer (isSerializer_of_mem hi) s)
  have noResponse : rs = [] := by
    have kept := State.responses_after_event he s
    rw [he_s] at kept
    exact List.append_right_eq_self.1 kept
  refine ⟨(s.after e).after i, ?_, ?_⟩
  · rw [runOps_eq_next, State.afterAll_cons, State.afterAll_cons, State.afterAll_nil]
  · rw [runOps_eq_next, State.afterAll_cons, State.afterAll_cons, State.afterAll_nil, hi_clock, he_s, he_serializer,
      hi_s, noResponse]
    simp only [State.writeClock, State.writeSerializer, State.respond, List.append_nil]

end Machine
end Sys2Proof
end

section
/-! PROOFS. The fields of a command word, and the decoder after the encoder (30_encoding.md R73 to R82). -/

namespace Sys2Proof

/-- Bit `j` of a 32-bit operand is bit `lo + j` of the word (R73). -/
theorem wordField_getLsbD {w lo j : Nat} (hj : j < 32) : (wordField w lo).getLsbD j = w.testBit (lo + j) := by
  rw [wordField_eq_ofNat, BitVec.getLsbD_ofNat, decide_eq_true hj, Bool.true_and, Nat.testBit_div_two_pow,
    Nat.add_comm]

@[simp] theorem arrayField_length (w l : Nat) : (arrayField w l).length = l := by
  rw [arrayField, List.length_map, List.length_range]

/-- Element `j` of an array operand is bit `4 + j` of the word (R75). -/
theorem arrayField_getElem? {w l j : Nat} (hj : j < l) : (arrayField w l)[j]? = some (w.testBit (4 + j)) := by
  rw [arrayField, List.getElem?_map, List.getElem?_range hj, Option.map_some]

/-- Settles O4: the fields of the decoder's equations for opcodes 5, 6 and 7, bit by bit. -/
theorem operandFieldsBitByBit : Obligations.OperandFieldsBitByBit := by
  unfold Obligations.OperandFieldsBitByBit
  intro cfg w
  refine ⟨fun h => ⟨_, _, _, decodeCommand_calcRpm h, fun j hj => ⟨?_, ?_, ?_⟩⟩,
    fun h => ⟨_, decodeCommand_srSet h, arrayField_length _ _, fun j => arrayField_getElem?⟩, decodeCommand_srShift⟩
  all_goals exact wordField_getLsbD hj

/-- The opcodes that the decoder tells apart (R77, R79). -/
theorem opcode_cases (w : Nat) :
    w % 16 = 1 ∨ w % 16 = 2 ∨ w % 16 = 3 ∨ w % 16 = 4 ∨ w % 16 = 5 ∨ w % 16 = 6 ∨ w % 16 = 7 ∨ w % 16 = 8 ∨
      (w % 16 = 0 ∨ 9 ≤ w % 16) := by
  omega

/-- A command word decodes to an operation of the command port or to none (R72, R153). -/
theorem port_of_decodeCommand {cfg : Config} {w : Nat} {i : Instr} (h : decodeCommand cfg w = .operation i) :
    i.port = .command := by
  unfold decodeCommand at h
  split at h
  all_goals cases h
  all_goals rfl

/-- The event port carries TICK and PULSE only (R70). -/
theorem mem_decodeEvent {ev : BitVec 2} {i : Instr} (h : i ∈ decodeEvent ev) : i = .tick ∨ i = .pulse := by
  rw [decodeEvent, List.mem_append] at h
  obtain h | h := h
  · exact .inl (List.mem_singleton.1 (List.mem_ite_nil_right.1 h).2)
  · exact .inr (List.mem_singleton.1 (List.mem_ite_nil_right.1 h).2)

/-- TICK and PULSE are the operations of the event port (R72). -/
theorem Instr.port_eq_event_iff (i : Instr) : i.port = .event ↔ i = .tick ∨ i = .pulse := by
  cases i <;> simp [Instr.port, Instr.agent, Agent.port]

/-- Settles O6, port by port: what each decoder answers stands on its own port, and the event port's operations are
TICK and PULSE. -/
theorem eachOperationOnItsOwnPortOnly : Obligations.EachOperationOnItsOwnPortOnly := by
  unfold Obligations.EachOperationOnItsOwnPortOnly
  intro cfg pw i hi
  have ownPort : i.port = pw.port := by
    cases pw with
    | event ev =>
      obtain ⟨j, hj, hji⟩ := List.mem_map.1 hi
      cases hji
      exact (Instr.port_eq_event_iff i).2 (mem_decodeEvent hj)
    | command w => exact port_of_decodeCommand (List.mem_singleton.1 hi).symm
  exact ⟨ownPort, ownPort ▸ Instr.port_eq_event_iff i⟩

section
variable {w w' k : Nat}

/-- Words that agree on their low `k` bits agree on any fewer. -/
theorem mod_two_pow_eq_of_le {m : Nat} (agree : w % 2 ^ k = w' % 2 ^ k) (hm : m ≤ k) : w % 2 ^ m = w' % 2 ^ m :=
  Nat.ModEq.of_dvd (Nat.pow_dvd_pow 2 hm) agree

theorem testBit_eq_of_mod {j : Nat} (agree : w % 2 ^ k = w' % 2 ^ k) (hj : j < k) : w.testBit j = w'.testBit j := by
  have bit : (w % 2 ^ k).testBit j = (w' % 2 ^ k).testBit j := by rw [agree]
  simpa only [Nat.testBit_mod_two_pow, hj, decide_true, Bool.true_and] using bit

theorem wordField_eq_of_mod {lo : Nat} (agree : w % 2 ^ k = w' % 2 ^ k) (hlo : lo + 32 ≤ k) :
    wordField w lo = wordField w' lo := by
  refine BitVec.eq_of_getLsbD_eq fun j hj => ?_
  rw [wordField_getLsbD hj, wordField_getLsbD hj, testBit_eq_of_mod agree (by omega)]

theorem arrayField_eq_of_mod {l : Nat} (agree : w % 2 ^ k = w' % 2 ^ k) (hl : 4 + l ≤ k) :
    arrayField w l = arrayField w' l := by
  refine List.map_congr_left fun j hj => testBit_eq_of_mod agree ?_
  have := List.mem_range.1 hj
  omega

end

/-- Every format names the opcode (R73). -/
theorem four_le_namedBits (cfg : Config) (op : Nat) : 4 ≤ Machine.namedBits cfg op := by
  unfold Machine.namedBits
  split_ifs <;> omega

/-- Every format fits the command word (R73). -/
theorem namedBits_le_cmdWidth (cfg : Config) (op : Nat) : Machine.namedBits cfg op ≤ cfg.cmdWidth := by
  unfold Machine.namedBits Config.cmdWidth
  split_ifs <;> omega

/-- The decoder reads the bits that the opcode's format names, and no others (R80). -/
theorem decodeCommand_eq_of_namedBits {cfg : Config} {w w' : Nat}
    (agree : w % 2 ^ Machine.namedBits cfg (w % 16) = w' % 2 ^ Machine.namedBits cfg (w % 16)) :
    decodeCommand cfg w = decodeCommand cfg w' := by
  have sameOpcode : w % 16 = w' % 16 := mod_two_pow_eq_of_le agree (four_le_namedBits cfg _)
  obtain op | op | op | op | op | op | op | op | op := opcode_cases w
  all_goals have op' := sameOpcode ▸ op
  · rw [decodeCommand_clkInit op, decodeCommand_clkInit op']
  · rw [decodeCommand_clkNow op, decodeCommand_clkNow op']
  · rw [decodeCommand_histInit op, decodeCommand_histInit op']
  · rw [decodeCommand_rdSnap op, decodeCommand_rdSnap op']
  · have named : Machine.namedBits cfg (w % 16) = 100 := by rw [op]; rfl
    rw [named] at agree
    rw [decodeCommand_calcRpm op, decodeCommand_calcRpm op', wordField_eq_of_mod agree (by decide),
      wordField_eq_of_mod agree (by decide), wordField_eq_of_mod agree (by decide)]
  · have named : Machine.namedBits cfg (w % 16) = 4 + cfg.l := by rw [op]; rfl
    rw [decodeCommand_srSet op, decodeCommand_srSet op', arrayField_eq_of_mod agree named.ge]
  · have named : Machine.namedBits cfg (w % 16) = 6 := by rw [op]; rfl
    rw [named] at agree
    rw [decodeCommand_srShift op, decodeCommand_srShift op', testBit_eq_of_mod agree (by decide),
      testBit_eq_of_mod agree (by decide)]
  · rw [decodeCommand_srLatch op, decodeCommand_srLatch op']
  · rw [decodeCommand_reserved op, decodeCommand_reserved op', sameOpcode]

/-- The unsigned integer of a bit array, one bit at a time (R75). -/
theorem bitsValue_cons (b : Bool) (bs : List Bool) : bitsValue (b :: bs) = Nat.bit b (bitsValue bs) := by
  rw [bitsValue, Nat.bit_val, Nat.add_comm]

theorem testBit_bitsValue (bits : List Bool) (j : Nat) : (bitsValue bits).testBit j = bits.getD j false := by
  induction bits generalizing j with
  | nil => simp [bitsValue]
  | cons b bs ih =>
    rw [bitsValue_cons]
    cases j with
    | zero => rw [Nat.testBit_bit_zero, List.getD_cons_zero]
    | succ j => rw [Nat.testBit_bit_succ, List.getD_cons_succ, ih]

theorem bitsValue_lt (bits : List Bool) : bitsValue bits < 2 ^ bits.length := by
  induction bits with
  | nil => decide
  | cons b bs ih =>
    have := b.toNat_le
    rw [bitsValue, List.length_cons, Nat.pow_succ]
    omega

/-- The array operand is read back from its unsigned integer (R75). -/
theorem arrayField_bitsValue (bits : List Bool) {l : Nat} (size : bits.length = l) :
    arrayField (6 + bitsValue bits * 2 ^ 4) l = bits := by
  have payload : 6 + bitsValue bits * 2 ^ 4 = 16 * bitsValue bits + 6 := by omega
  rw [payload, arrayField_payload _ _ (by decide)]
  simp only [testBit_bitsValue]
  exact Machine.operandBits_of_length size

/-- A 32-bit operand is read back where the word holds it. -/
theorem wordField_eq_of_toNat {w lo : Nat} {a : Word} (h : w / 2 ^ lo % 2 ^ 32 = a.toNat) : wordField w lo = a := by
  rw [wordField_eq_ofNat, ← BitVec.toNat_inj, BitVec.toNat_ofNat, h]

/-- Settles O1, one operation at a time: the opcode the encoder writes selects the operation, and each operand is read
back from the bits where the encoder put it. -/
theorem decodeEncodeRoundTrip : Obligations.DecodeEncodeRoundTrip := by
  unfold Obligations.DecodeEncodeRoundTrip
  intro cfg i wf
  cases i with
  | tick | pulse | clkInit | clkNow | histInit | rdSnap | srLatch => rfl
  | calcRpm a b c =>
    have ha := a.isLt
    have hb := b.isLt
    have hc := c.isLt
    rw [encode, decode, decodeCommand_calcRpm (by omega), wordField_eq_of_toNat (a := a) (by omega),
      wordField_eq_of_toNat (a := b) (by omega), wordField_eq_of_toNat (a := c) (by omega)]
  | srSet bits =>
    have size : bits.length = cfg.l := beq_iff_eq.1 wf
    rw [encode, decode, decodeCommand_srSet (by omega), arrayField_bitsValue bits size]
  | srShift bit um => cases bit <;> cases um <;> rfl

/-- The encoder writes the bits that the operation's format names, and every other bit 0 (R80). -/
theorem encode_lt_namedBits {cfg : Config} {i : Instr} {w : Nat} (wf : i.wf cfg = true) (h : encode i = .command w) :
    w < 2 ^ Machine.namedBits cfg (w % 16) := by
  cases i with
  | tick | pulse => cases h
  | clkInit | clkNow | histInit | rdSnap | srLatch =>
    cases h
    exact Nat.lt_of_lt_of_le (by decide) (Nat.pow_le_pow_right (by decide) (four_le_namedBits cfg _))
  | calcRpm a b c =>
    cases h
    have ha := a.isLt
    have hb := b.isLt
    have hc := c.isLt
    have opcode : (5 + a.toNat * 2 ^ 4 + b.toNat * 2 ^ 36 + c.toNat * 2 ^ 68) % 16 = 5 := by omega
    have named : Machine.namedBits cfg 5 = 100 := rfl
    rw [opcode, named]
    omega
  | srSet bits =>
    cases h
    have size : bits.length = cfg.l := beq_iff_eq.1 wf
    have value := bitsValue_lt bits
    have opcode : (6 + bitsValue bits * 2 ^ 4) % 16 = 6 := by omega
    have named : Machine.namedBits cfg 6 = 4 + cfg.l := rfl
    rw [opcode, named, Nat.pow_add, ← size]
    omega
  | srShift bit um =>
    cases h
    have hbit := bit.toNat_le
    have hum := um.toNat_le
    have opcode : (7 + bit.toNat * 2 ^ 4 + um.toNat * 2 ^ 5) % 16 = 7 := by omega
    have named : Machine.namedBits cfg 7 = 6 := rfl
    rw [opcode, named]
    omega

/-- Settles O2: every format fits the command word, and an event word has 2 bits by its type. -/
theorem encodedWordFitsItsPort : Obligations.EncodedWordFitsItsPort := by
  unfold Obligations.EncodedWordFitsItsPort
  intro cfg i wf
  cases h : encode i with
  | event ev => rfl
  | command w =>
    exact decide_eq_true (Nat.lt_of_lt_of_le (encode_lt_namedBits wf h)
      (Nat.pow_le_pow_right (by decide) (namedBits_le_cmdWidth cfg _)))

/-- Settles O5: the decoder reads the named bits only, and the encoder writes only those. -/
theorem unnamedPayloadBitsAreIgnored : Obligations.UnnamedPayloadBitsAreIgnored := by
  unfold Obligations.UnnamedPayloadBitsAreIgnored
  exact fun cfg => ⟨fun w w' => decodeCommand_eq_of_namedBits, fun i w => encode_lt_namedBits⟩

/-- Settles O7: every word is decoded, and every operation encoded, by evaluation; of the parameters only DIGITS = 1
is read, as the length of the array operand. -/
theorem workedEncodings : Obligations.WorkedEncodings := by
  unfold Obligations.WorkedEncodings
  exact fun c => ⟨⟨rfl, rfl⟩, ⟨rfl, rfl⟩, ⟨rfl, rfl⟩, ⟨rfl, rfl⟩, ⟨rfl, rfl⟩, ⟨rfl, rfl⟩, ⟨rfl, rfl⟩, ⟨rfl, rfl⟩,
    ⟨rfl, rfl⟩, ⟨rfl, rfl⟩, ⟨rfl, rfl⟩, ⟨rfl, rfl⟩, rfl⟩

end Sys2Proof
end

section
/-! PROOFS. One step, by what stands first in the inputs (30_encoding.md R70, R71, R79; 60_exceptions.md R147). -/

namespace Sys2Proof.Machine

@[simp] theorem State.setInputs_setInputs (s : State) (cs ds : List Cycle) :
    (s.setInputs cs).setInputs ds = s.setInputs ds := rfl

theorem State.setInputs_self {s : State} {cs : List Cycle} (h : s.inputs = cs) : s.setInputs cs = s := by
  rw [← h, State.setInputs]

variable {s : State} {rest : List Cycle}

theorem step_of_fetch_idle (h : fetch s.cfg s.inputs = (.idle, rest)) : step s = .next (s.setInputs rest) := by
  rw [step, h]

theorem step_of_fetch_reset (h : fetch s.cfg s.inputs = (.reset, rest)) :
    step s = .next (s.setInputs rest).assertReset := by
  rw [step, h]

theorem step_of_fetch_reserved {op : BitVec 4} (h : fetch s.cfg s.inputs = (.reserved op, rest)) :
    step s = .next (s.setInputs rest).refuseCommand := by
  rw [step, h]

theorem step_of_fetch_operation {i : Instr} (h : fetch s.cfg s.inputs = (.operation i, rest)) :
    step s = exec i (s.setInputs rest) := by
  rw [step, h]

/-- Settles O21: whatever the ports ask for, the step answers a next state, since every operation does. -/
theorem noStepEverStops : Obligations.NoStepEverStops := by
  unfold Obligations.NoStepEverStops
  intro s
  rcases hf : fetch s.cfg s.inputs with ⟨f, rest⟩
  cases f with
  | idle => exact ⟨_, step_of_fetch_idle hf⟩
  | reset => exact ⟨_, step_of_fetch_reset hf⟩
  | reserved op => exact ⟨_, step_of_fetch_reserved hf⟩
  | operation i => exact ⟨_, (step_of_fetch_operation hf).trans (exec_eq_next i _)⟩

@[simp] theorem decodeEvent_zero : decodeEvent 0#2 = [] := by decide
@[simp] theorem decodeEvent_one : decodeEvent 1#2 = [.tick] := by decide
@[simp] theorem decodeEvent_two : decodeEvent 2#2 = [.pulse] := by decide
@[simp] theorem decodeEvent_three : decodeEvent 3#2 = [.tick, .pulse] := by decide

/-- The four values of the two strobes (R70). -/
theorem strobe_cases (ev : BitVec 2) : ev = 0#2 ∨ ev = 1#2 ∨ ev = 2#2 ∨ ev = 3#2 := by
  revert ev
  decide

/-- A step on a cycle with a command that decodes to an operation, and no strobe. -/
theorem step_command {w : Nat} {i : Instr} (h : s.inputs = ⟨false, 0b00#2, some w⟩ :: rest)
    (decoded : decodeCommand s.cfg w = .operation i) : step s = exec i (s.setInputs rest) := by
  refine step_of_fetch_operation ?_
  rw [h, fetch_command s.cfg rest rfl decodeEvent_zero rfl, decoded, Fetched.ofDecoded]

/-- What the first event of a cycle leaves of it: PULSE, where TICK came first and PULSE is there too, and the
command. -/
theorem afterEvent_eq {ev : BitVec 2} {i : Instr} {is : List Instr} (cmd : Option Nat) (rest : List Cycle)
    (h : decodeEvent ev = i :: is) :
    afterEvent ⟨false, ev, cmd⟩ rest =
      if is = [] ∧ cmd = none then rest else ⟨false, if is = [] then 0b00#2 else 0b10#2, cmd⟩ :: rest := by
  obtain rfl | rfl | rfl | rfl := strobe_cases ev
  · cases decodeEvent_zero.symm.trans h
  · cases decodeEvent_one.symm.trans h
    simp [afterEvent, Cycle.afterEvent, Cycle.isDone]
  · cases decodeEvent_two.symm.trans h
    simp [afterEvent, Cycle.afterEvent, Cycle.isDone]
  · cases decodeEvent_three.symm.trans h
    simp [afterEvent, Cycle.afterEvent, Cycle.isDone]

/-- A step on a cycle with a strobe. -/
theorem step_event {ev : BitVec 2} {cmd : Option Nat} {i : Instr} {is : List Instr}
    (h : s.inputs = ⟨false, ev, cmd⟩ :: rest) (decoded : decodeEvent ev = i :: is) :
    step s = exec i (s.setInputs
      (if is = [] ∧ cmd = none then rest else ⟨false, if is = [] then 0b00#2 else 0b10#2, cmd⟩ :: rest)) := by
  refine step_of_fetch_operation ?_
  rw [h, fetch_event s.cfg rest rfl decoded, afterEvent_eq cmd rest decoded]

/-- Settles O8: the two kinds of cycle that hold an operation. -/
theorem stepRunsDecodedOperation : Obligations.StepRunsDecodedOperation := by
  unfold Obligations.StepRunsDecodedOperation
  exact fun s rest => ⟨fun w i => step_command, fun ev cmd i is => step_event⟩

/-- Settles O12: the decoder's equation for a reserved opcode, and the response that refuses the command. -/
theorem reservedOpcodeIsAnsweredWithErr : Obligations.ReservedOpcodeIsAnsweredWithErr := by
  unfold Obligations.ReservedOpcodeIsAnsweredWithErr
  intro s w rest h reserved
  rw [step_of_fetch_reserved (op := BitVec.ofNat 4 (w % 16)) (rest := rest), State.refuseCommand, State.respond,
    State.setInputs]
  rw [h, fetch_command s.cfg rest rfl decodeEvent_zero rfl, decodeCommand_reserved reserved, Fetched.ofDecoded]

/-- Settles O13: without an input, and on a cycle that holds none, the ports ask for nothing. -/
theorem noInputChangesNothing : Obligations.NoInputChangesNothing := by
  unfold Obligations.NoInputChangesNothing
  refine fun s rest => ⟨fun h => ?_, fun h => step_of_fetch_idle ?_⟩
  · rw [step_of_fetch_idle (rest := []) (by rw [h, fetch_nil]), State.setInputs_self h]
  · rw [h, fetch_idle s.cfg rest rfl decodeEvent_zero rfl]

/-- Settles O14: with the reset input the ports ask for reset alone, which keeps only what was observed and the
inputs that remain. -/
theorem resetInputRestoresTheResetState : Obligations.ResetInputRestoresTheResetState := by
  unfold Obligations.ResetInputRestoresTheResetState
  intro s ev cmd rest h
  rw [step_of_fetch_reset (rest := rest) (by rw [h, fetch_reset s.cfg rest rfl]), State.assertReset]
  rfl

/-- A step on the cycle in which a word stands alone that decodes to one operation. -/
theorem step_ofPortWord {pw : PortWord} {i : Instr} (decoded : decode s.cfg pw = [.operation i]) :
    step (s.setInputs (Cycle.ofPortWord pw :: s.inputs)) = exec i s := by
  cases pw with
  | event ev =>
    have strobe : decodeEvent ev = [i] :=
      List.map_injective_iff.2 (fun _ _ => Decoded.operation.inj) (decoded : (decodeEvent ev).map _ = [i].map _)
    refine (step_event (State.setInputs_inputs s _) strobe).trans ?_
    rw [if_pos ⟨rfl, rfl⟩, State.setInputs_setInputs, State.setInputs_self rfl]
  | command w =>
    refine (step_command (State.setInputs_inputs s _) (List.singleton_inj.1 decoded)).trans ?_
    rw [State.setInputs_setInputs, State.setInputs_self rfl]

/-- Settles O9: the decoder gives back the operation that was encoded, and the step runs it. -/
theorem encodedOperationRunsNext : Obligations.EncodedOperationRunsNext := by
  unfold Obligations.EncodedOperationRunsNext
  exact fun s i wf => step_ofPortWord (decodeEncodeRoundTrip s.cfg i wf)

/-- A step on a cycle with both strobes carries out TICK and leaves PULSE and the command. -/
theorem step_both_strobes {cmd : Option Nat} (h : s.inputs = ⟨false, 0b11#2, cmd⟩ :: rest) :
    step s = exec .tick (s.setInputs (⟨false, 0b10#2, cmd⟩ :: rest)) := by
  rw [step_event h decodeEvent_three]
  rfl

/-- A step on a cycle with the strobe of PULSE alone and a command carries out PULSE and leaves the command. -/
theorem step_pulse_strobe {w : Nat} (h : s.inputs = ⟨false, 0b10#2, some w⟩ :: rest) :
    step s = exec .pulse (s.setInputs (⟨false, 0b00#2, some w⟩ :: rest)) := by
  rw [step_event h decodeEvent_two]
  rfl

/-- A step on a cycle with the strobe of PULSE alone and no command carries out PULSE. -/
theorem step_pulse_strobe_alone (h : s.inputs = ⟨false, 0b10#2, none⟩ :: rest) :
    step s = exec .pulse (s.setInputs rest) := by
  rw [step_event h decodeEvent_two]
  rfl

/-- No operation changes a parameter (R7). -/
@[simp] theorem State.after_cfg (s : State) (i : Instr) : (s.after i).cfg = s.cfg := by
  cases hi : i.isSerializer with
  | false =>
    obtain ⟨hcfg, -⟩ := sameSerializerSide_after_not_serializer hi s
    exact hcfg.symm
  | true =>
    obtain ⟨hcfg, -⟩ := sameClockSide_after_serializer hi s
    exact hcfg.symm

/-- No operation takes an input (R16). -/
@[simp] theorem State.after_inputs (s : State) (i : Instr) : (s.after i).inputs = s.inputs := by
  cases hi : i.isSerializer with
  | false =>
    obtain ⟨u, rs, hs, -⟩ := State.after_not_serializer hi (sameClockSide_refl s)
    rw [hs, State.writeClock]
  | true =>
    obtain ⟨u, es, hs, -⟩ := State.after_serializer hi (sameSerializerSide_refl s)
    rw [hs, State.respond_inputs, State.writeSerializer]

/-- Settles O20: what a step does besides an operation keeps the parameters, and so does every operation. -/
theorem noStepChangesAParameter : Obligations.NoStepChangesAParameter := by
  unfold Obligations.NoStepChangesAParameter
  intro s t h
  obtain ⟨rest, rfl | rfl | rfl | ⟨i, hexec⟩⟩ := step_cases h
  · rfl
  · rfl
  · rfl
  · rw [← State.after_of_exec hexec, State.after_cfg, State.setInputs_cfg]

/-- Settles O10: TICK leaves PULSE and the command in the inputs, and PULSE the command; neither changes the
parameters, by which the command is decoded. -/
theorem sameCycleTickThenPulseThenCommand : Obligations.SameCycleTickThenPulseThenCommand := by
  unfold Obligations.SameCycleTickThenPulseThenCommand
  intro s w i rest h decoded
  refine ⟨_, _, (step_both_strobes h).trans (exec_eq_next _ _), (step_pulse_strobe ?_).trans (exec_eq_next _ _),
    exec_eq_next _ _, exec_eq_next _ _, step_command (w := w) ?_ ?_⟩
  · rw [State.after_inputs, State.setInputs_inputs]
  · rw [State.after_inputs, State.setInputs_inputs]
  · rwa [State.after_cfg, State.setInputs_cfg, State.after_cfg, State.setInputs_cfg]

end Sys2Proof.Machine
end

section
/-! PROOFS. The invariant: it holds after reset, and every step keeps it (10_state.md sections 3 to 5 and 9). -/

namespace Sys2Proof

theorem Config.wf_iff (cfg : Config) :
    cfg.wf = true ↔ 2 ≤ cfg.n ∧ cfg.n ≤ 4294967295 ∧ 1 ≤ cfg.digits ∧ cfg.increment ≠ 0#32 := by
  simp [Config.wf, and_assoc]

/-- The machine's own parameters are legal, whatever the values that R7 does not fix. -/
theorem Config.machine_wf : Config.machine.wf = true := by
  refine (Config.wf_iff _).2 ⟨by decide, by decide, by decide, fun zero => ?_⟩
  have value : (Config.openIncrementLessOne.val + 1) % 2 ^ 32 = 0 := by
    rw [← BitVec.toNat_ofNat]
    exact congrArg BitVec.toNat zero
  have range := Config.openIncrementLessOne.isLt
  omega

namespace Machine

/-- The newest slot is the last of the view (R26). -/
theorem State.newest_of_view {s : State} {older : List Word} {c : Word} (h : s.view = older ++ [c]) :
    s.newest = c := by
  have size : older.length + 1 = s.cfg.n := by rw [← State.view_length, h, List.length_append, List.length_singleton]
  rw [State.newest, h, ← size]
  simp

/-- The view is the older slots and the newest (R26). -/
theorem State.view_eq_append_newest {s : State} (h : 0 < s.cfg.n) :
    ∃ older : List Word, older.length + 1 = s.cfg.n ∧ s.view = older ++ [s.newest] := by
  have nonempty : s.view ≠ [] := List.ne_nil_of_length_pos (by rwa [State.view_length])
  have split := (List.dropLast_append_getLast nonempty).symm
  rw [← State.newest_of_view split] at split
  exact ⟨_, by rw [List.length_dropLast, State.view_length]; omega, split⟩

/-- A cleared history scans to no window, whatever the current timestamp (R101, R112). -/
theorem window_view_of_cleared {s : State} (h : s.hist = histClear s.cfg.n) (bound c : Word) :
    window bound c s.view = (0#32, 0#32) := by
  rw [State.view, h, histView_clear]
  exact window_sentinels bound c s.cfg.n

/-- After a PULSE the view is the old one without its oldest slot, and the counter as the newest (R102). -/
theorem State.view_after_pulse {s : State} (histSize : s.hist.length = s.cfg.n) (headRange : s.head < s.cfg.n) :
    (s.after .pulse).view = s.view.drop 1 ++ [s.cnt] := by
  rw [after_pulse, view_rescan, view_insert s.cnt histSize headRange]

theorem State.newest_after_pulse {s : State} (histSize : s.hist.length = s.cfg.n) (headRange : s.head < s.cfg.n) :
    (s.after .pulse).newest = s.cnt :=
  newest_of_view (view_after_pulse histSize headRange)

/-- Settles O17: both operations write the values that the fields have after reset, CLK_INIT all but `armed`. -/
theorem initOperationsAgreeWithReset : Obligations.InitOperationsAgreeWithReset := by
  unfold Obligations.InitOperationsAgreeWithReset
  intro cfg
  rw [exec_histInit, exec_clkInit]
  exact ⟨rfl, rfl⟩

/-- The invariant holds after reset, for legal parameters (R42). -/
theorem State.resetWith_inv {cfg : Config} (wf : cfg.wf = true) : (State.resetWith cfg).Inv := by
  obtain ⟨histWf, mirrorWf⟩ := resetWith_memories_wf cfg
  obtain ⟨twoSlots, -, oneDigit, -⟩ := cfg.wf_iff.1 wf
  exact {
    config := wf
    histSize := histWf
    headRange := Nat.lt_of_lt_of_le (by decide : 0 < 2) twoSlots
    mirrorSize := mirrorWf
    shiftedRange := Nat.mul_pos (by decide) oneDigit
    pinsIdle := ⟨rfl, rfl, rfl⟩
    snapshot := (window_view_of_cleared rfl _ _).symm
    unarmedZero := fun _ => ⟨rfl, rfl⟩ }

/-- Settles O16: the invariant holds after reset for legal parameters, and the machine's own are legal. -/
theorem resetMeetsTheInvariant : Obligations.ResetMeetsTheInvariant := by
  unfold Obligations.ResetMeetsTheInvariant
  exact ⟨fun _ => State.resetWith_inv, State.resetWith_inv Config.machine_wf⟩

section
variable {s : State}

theorem State.Inv.respond (inv : s.Inv) (r : Response) : (s.respond r).Inv := { inv with }

theorem State.Inv.setInputs (inv : s.Inv) (cs : List Cycle) : (s.setInputs cs).Inv := { inv with }

theorem State.Inv.setCnt_of_armed (inv : s.Inv) (armed : s.armed = true) (v : Word) : (s.setCnt v).Inv :=
  { inv with unarmedZero := fun unarmed => Bool.noConfusion (armed.symm.trans unarmed) }

theorem State.Inv.armAtZero (inv : s.Inv) : ((s.setCnt 0#32).setArmed true).Inv :=
  { inv with unarmedZero := fun unarmed => Bool.noConfusion unarmed }

theorem State.Inv.clearHistory (inv : s.Inv) :
    ((s.setHist (histClear s.cfg.n) 0).setSnapshot (0#32, 0#32)).Inv :=
  { inv with
    histSize := histClear_wf s.cfg.n
    headRange := Nat.zero_lt_of_lt inv.headRange
    snapshot := (window_view_of_cleared rfl _ _).symm
    unarmedZero := fun unarmed => by
      obtain ⟨zero, -⟩ := inv.unarmedZero unarmed
      exact ⟨zero, rfl⟩ }

/-- A PULSE before CLK_INIT stores the sentinel in a cleared history (R161 item 1). -/
theorem State.Inv.hist_after_pulse_of_unarmed (inv : s.Inv) (unarmed : s.armed = false) :
    (s.after .pulse).hist = histClear s.cfg.n := by
  obtain ⟨zero, cleared⟩ := inv.unarmedZero unarmed
  calc (s.after .pulse).hist
    _ = (s.hist).set s.head s.cnt := rfl
    _ = (List.replicate s.cfg.n sentinel).set s.head sentinel := by rw [cleared, zero, histClear, sentinel]
    _ = histClear s.cfg.n := List.set_replicate_self

/-- The snapshot a PULSE stores is the scan of the view it leaves, at the timestamp it records (R102, R104). -/
theorem State.Inv.after_pulse (inv : s.Inv) : (s.after .pulse).Inv := by
  have newest := State.newest_after_pulse ((Memory.wf_iff _ _).1 inv.histSize) inv.headRange
  exact { inv with
    histSize := histWrite_keeps_wf s.head s.cnt inv.histSize
    headRange := Nat.mod_lt _ (Nat.zero_lt_of_lt inv.headRange)
    snapshot := by rw [newest]; rfl
    unarmedZero := fun unarmed => by
      obtain ⟨zero, -⟩ := inv.unarmedZero unarmed
      exact ⟨zero, inv.hist_after_pulse_of_unarmed unarmed⟩ }

theorem State.Inv.setMirror {m : List Bool} (inv : s.Inv) (size : m.length = s.cfg.l) : (s.setMirror m).Inv :=
  { inv with mirrorSize := (Memory.mirrorWf_iff _ _).2 size }

theorem State.Inv.setShifted {k : Nat} (inv : s.Inv) (range : k < s.cfg.l) : (s.setShifted k).Inv :=
  { inv with shiftedRange := range }

/-- A latch pulse leaves LAT at its idle level (R33, R123). -/
theorem State.Inv.latchPulse (inv : s.Inv) : s.latchPulse.Inv := by
  obtain ⟨ser, sck, -⟩ := inv.pinsIdle
  rw [latchPulse_eq]
  exact { inv with pinsIdle := ⟨ser, sck, rfl⟩ }

/-- A shift leaves the pins at their idle levels, and its count starts again at L (R33, R122). -/
theorem State.Inv.shift1 (inv : s.Inv) (b : Bool) : (s.shift1 b).1.Inv := by
  obtain ⟨-, -, lat⟩ := inv.pinsIdle
  have range := inv.shiftedRange
  by_cases latch : s.shifted + 1 = s.cfg.l
  · rw [shift1_of_eq b latch]
    exact { inv with shiftedRange := Nat.zero_lt_of_lt range, pinsIdle := ⟨rfl, rfl, rfl⟩ }
  · rw [shift1_of_ne b latch]
    exact { inv with shiftedRange := Nat.lt_of_le_of_ne range latch, pinsIdle := ⟨rfl, rfl, lat⟩ }

theorem State.Inv.shiftAll (inv : s.Inv) (bs : List Bool) : (s.shiftAll bs).Inv := by
  induction bs generalizing s with
  | nil => exact inv
  | cons b bs ih => exact ih (inv.shift1 b)

@[simp] theorem State.shift1_cfg (s : State) (b : Bool) : (s.shift1 b).1.cfg = s.cfg := by
  rw [shift1_eq]

@[simp] theorem State.shiftAll_cfg (s : State) (bs : List Bool) : (s.shiftAll bs).cfg = s.cfg := by
  induction bs generalizing s with
  | nil => rfl
  | cons b bs ih => rw [shiftAll, ih, shift1_cfg]

/-- Every operation keeps the invariant. -/
theorem State.Inv.after (inv : s.Inv) (i : Instr) : (s.after i).Inv := by
  have mirrorSize := (Memory.mirrorWf_iff _ _).1 inv.mirrorSize
  cases i with
  | tick =>
    by_cases armed : s.armed = true
    · rw [after_tick_of_armed armed]
      exact inv.setCnt_of_armed armed _
    · rwa [after_tick_of_not_armed armed]
  | pulse => exact inv.after_pulse
  | clkInit =>
    rw [after_clkInit]
    exact inv.armAtZero.respond _
  | histInit =>
    rw [after_histInit]
    exact inv.clearHistory.respond _
  | clkNow | rdSnap | calcRpm => exact inv.respond _
  | srSet bits =>
    rw [after_srSet]
    exact ((inv.shiftAll _).setMirror (by rw [operandBits_length, shiftAll_cfg])).respond _
  | srShift bit um =>
    have size : (if um && !(s.shift1 bit).2 then rotIn s.mirror bit else s.mirror).length = s.cfg.l := by
      split
      · rw [rotIn_length, mirrorSize]
      · exact mirrorSize
    rw [after_srShift]
    exact ((inv.shift1 bit).setMirror (by rw [size, shift1_cfg])).respond _
  | srLatch =>
    have range : (if s.cfg.latchClearsCount then 0 else s.shifted) < s.cfg.l := by
      split
      · exact Nat.zero_lt_of_lt inv.shiftedRange
      · exact inv.shiftedRange
    rw [after_srLatch]
    exact (inv.latchPulse.setShifted (by rwa [latchPulse_cfg])).respond _

end

/-- Settles O18: a step passes over a cycle, restores the reset state, refuses a command, or carries out an operation,
and each of these keeps the invariant. -/
theorem everyStepKeepsTheInvariant : Obligations.EveryStepKeepsTheInvariant := by
  unfold Obligations.EveryStepKeepsTheInvariant
  intro s t inv h
  obtain ⟨rest, rfl | rfl | rfl | ⟨i, hexec⟩⟩ := step_cases h
  · exact inv.setInputs rest
  · exact { State.resetWith_inv inv.config with }
  · exact (inv.setInputs rest).respond _
  · rw [← State.after_of_exec hexec]
    exact (inv.setInputs rest).after i

/-- Settles O19: every operation completes and keeps the invariant. -/
theorem everyRunCompletesWithinTheInvariant : Obligations.EveryRunCompletesWithinTheInvariant := by
  unfold Obligations.EveryRunCompletesWithinTheInvariant
  intro s ops inv
  exact ⟨_, runOps_eq_next ops s, State.afterAll_keeps (fun i _ _ inv => inv.after i) inv⟩

/-- Settles O34: the history stays cleared, so that its view is all sentinel and holds no window. -/
theorem pulseBeforeClkInitIsInvisible : Obligations.PulseBeforeClkInitIsInvisible := by
  unfold Obligations.PulseBeforeClkInitIsInvisible
  intro s inv unarmed
  have cleared := inv.hist_after_pulse_of_unarmed unarmed
  have snapshot := inv.after_pulse.snapshot
  rw [window_view_of_cleared cleared] at snapshot
  obtain ⟨oldest, count⟩ := Prod.mk.inj snapshot
  refine ⟨_, exec_eq_next .pulse s, fun u hu => ?_, oldest, count⟩
  rw [State.view, State.after_cfg, cleared, histView_clear] at hu
  exact eq_zero_of_mem_histClear hu

/-- Settles O11: TICK writes the counter, and PULSE records it in the slot at `head`, which is then the newest. -/
theorem sameCyclePulseSeesTheTick : Obligations.SameCyclePulseSeesTheTick := by
  unfold Obligations.SameCyclePulseSeesTheTick
  intro s rest inv armed h
  have ticked : (s.setInputs (⟨false, 0b10#2, none⟩ :: rest)).after .tick =
      (s.setCnt (s.cnt + s.cfg.increment)).setInputs (⟨false, 0b10#2, none⟩ :: rest) :=
    State.after_tick_of_armed armed
  have histSize := (Memory.wf_iff _ _).1 inv.histSize
  have slot : s.head < s.hist.length := by
    rw [histSize]
    exact inv.headRange
  refine ⟨_, _, (step_both_strobes h).trans ((exec_eq_next _ _).trans (congrArg _ ticked)),
    (step_pulse_strobe_alone rfl).trans (exec_eq_next _ _), ?_, rfl, ?_, ?_⟩
  · rw [State.after_inputs, State.setInputs_inputs]
  · exact State.newest_after_pulse histSize inv.headRange
  · exact histRead_write_same _ slot

end Machine
end Sys2Proof
end

section
/-! PROOFS. The clock and the history over sequences of operations (40_clock.md and 10_state.md, the laws). -/

namespace Sys2Proof.Machine

/-- The counter and `armed` are written by TICK and CLK_INIT only (R41). -/
theorem State.clock_after_of_ne {s : State} {i : Instr} (notTick : i ≠ .tick) (notInit : i ≠ .clkInit) :
    (s.after i).cnt = s.cnt ∧ (s.after i).armed = s.armed := by
  cases hi : i.isSerializer with
  | true =>
    obtain ⟨-, cnt, armed, -⟩ := sameClockSide_after_serializer hi s
    exact ⟨cnt.symm, armed.symm⟩
  | false =>
    cases i with
    | tick => exact absurd rfl notTick
    | clkInit => exact absurd rfl notInit
    | pulse | clkNow | histInit | rdSnap | calcRpm => exact ⟨rfl, rfl⟩
    | srSet | srShift | srLatch => cases hi

/-- The history and the snapshot are written by PULSE and HIST_INIT only (R41). -/
theorem State.history_after_of_ne {s : State} {i : Instr} (notPulse : i ≠ .pulse) (notInit : i ≠ .histInit) :
    (s.after i).hist = s.hist ∧ (s.after i).head = s.head ∧
      (s.after i).snapOldest = s.snapOldest ∧ (s.after i).snapCount = s.snapCount := by
  cases hi : i.isSerializer with
  | true =>
    obtain ⟨-, -, -, hist, head, oldest, count⟩ := sameClockSide_after_serializer hi s
    exact ⟨hist.symm, head.symm, oldest.symm, count.symm⟩
  | false =>
    cases i with
    | tick =>
      rw [after_tick]
      exact ⟨rfl, rfl, rfl, rfl⟩
    | pulse => exact absurd rfl notPulse
    | histInit => exact absurd rfl notInit
    | clkInit | clkNow | rdSnap | calcRpm => exact ⟨rfl, rfl, rfl, rfl⟩
    | srSet | srShift | srLatch => cases hi

/-- No operation disarms the clock (R22). -/
theorem State.armed_after {s : State} (i : Instr) (armed : s.armed = true) : (s.after i).armed = true := by
  by_cases tick : i = .tick
  · rw [tick, after_tick_of_armed armed, setCnt_armed, armed]
  by_cases init : i = .clkInit
  · rw [init, after_clkInit, respond_armed, setArmed_armed]
  · obtain ⟨-, kept⟩ := clock_after_of_ne (s := s) tick init
    rw [kept, armed]

/-- Settles O26: what each operation keeps, a sequence of operations keeps. -/
theorem noOperationDisarmsTheClock : Obligations.NoOperationDisarmsTheClock := by
  unfold Obligations.NoOperationDisarmsTheClock
  exact fun s ops armed => ⟨_, runOps_eq_next ops s, State.afterAll_keeps
    (P := fun t => t.armed = true) (fun i _ _ => State.armed_after i) armed⟩

/-- One more TICK, over the integers modulo 2^32. -/
theorem add32_add_ofNat_mul (a b : Word) (k : Nat) :
    add32 a b + BitVec.ofNat 32 (k * b.toNat) = a + BitVec.ofNat 32 ((k + 1) * b.toNat) := by
  rw [Nat.succ_mul, BitVec.ofNat_add, BitVec.ofNat_toNat, BitVec.setWidth_eq, add32, BitVec.add_assoc,
    BitVec.add_comm b]

/-- From an armed clock on, the counter advances by INCREMENT at each TICK, and by nothing else (40_clock.md,
"Counting law"). -/
theorem State.cnt_afterAll {s : State} {ops : List Instr} (armed : s.armed = true) (noInit : .clkInit ∉ ops) :
    (s.afterAll ops).cnt = s.cnt + BitVec.ofNat 32 (ops.count .tick * s.cfg.increment.toNat) := by
  induction ops generalizing s with
  | nil => simp
  | cons i is ih =>
    obtain ⟨notInit, noInitAfter⟩ := List.ne_and_not_mem_of_not_mem_cons noInit
    rw [afterAll_cons, ih (armed_after i armed) noInitAfter, after_cfg]
    by_cases tick : i = .tick
    · rw [tick, List.count_cons_self, after_tick_of_armed armed, setCnt_cnt, add32_add_ofNat_mul]
    · obtain ⟨kept, -⟩ := clock_after_of_ne (s := s) tick (Ne.symm notInit)
      rw [List.count_cons_of_ne tick, kept]

/-- The response an operation adds is the one returned last. -/
@[simp] theorem State.lastResponse_respond (s : State) (r : Response) : (s.respond r).lastResponse = r := by
  rw [lastResponse, respond_responses, List.getLastD_concat]

/-- Settles O25: CLK_INIT arms the clock at 0, and from there the counter is the sum of the TICKs. -/
theorem countingLaw : Obligations.CountingLaw := by
  unfold Obligations.CountingLaw
  intro s ops noInit
  refine ⟨_, runOps_eq_next _ s, ?_, _, exec_clkNow _, by rw [State.lastResponse_respond]⟩
  rw [State.afterAll_cons, State.cnt_afterAll rfl noInit, State.after_cfg]
  exact BitVec.zero_add _

/-- Ticks on an armed clock write the counter and nothing else. -/
theorem State.afterAll_tickTimes {s : State} (armed : s.armed = true) (k : Nat) :
    s.afterAll (tickTimes k) = s.setCnt (s.cnt + BitVec.ofNat 32 (k * s.cfg.increment.toNat)) := by
  induction k generalizing s with
  | zero => simp [tickTimes, setCnt]
  | succ k ih =>
    rw [tickTimes, List.replicate_succ, afterAll_cons, ← tickTimes, ih (armed_after .tick armed),
      after_tick_of_armed armed, setCnt_cnt, setCnt_cfg, add32_add_ofNat_mul, setCnt, setCnt, setCnt]

/-- The number of ticks of the shorthand covers the distance to the target (R84). -/
theorem ticksTo_mul_increment {cfg : Config} {cnt target : Word} {k : Nat} (h : ticksTo cfg cnt target = some k) :
    k * cfg.increment.toNat = (sub32 target cnt).toNat := by
  rw [ticksTo, Option.ite_none_right_eq_some] at h
  obtain ⟨whole, quotient⟩ := h
  rw [← Option.some.inj quotient]
  exact Nat.div_mul_cancel (Nat.dvd_of_mod_eq_zero whole)

/-- Settles O27: the ticks add the distance from the counter to the target. -/
theorem atShorthandReachesItsTarget : Obligations.AtShorthandReachesItsTarget := by
  unfold Obligations.AtShorthandReachesItsTarget
  intro s target k armed h
  have reached : s.cnt + BitVec.ofNat 32 (k * s.cfg.increment.toNat) = target := by
    rw [ticksTo_mul_increment h, BitVec.ofNat_toNat, BitVec.setWidth_eq, sub32, BitVec.add_comm,
      BitVec.sub_add_cancel]
  rw [runOps_eq_next, State.afterAll_tickTimes armed, reached, State.setCnt]

/-- Settles O32: every operation of the list leaves the snapshot as it is. -/
theorem snapshotChangesOnlyWithPulseOrInit : Obligations.SnapshotChangesOnlyWithPulseOrInit := by
  unfold Obligations.SnapshotChangesOnlyWithPulseOrInit
  intro s ops noPulse noInit
  refine ⟨_, runOps_eq_next ops s, State.afterAll_keeps
    (P := fun t => t.snapOldest = s.snapOldest ∧ t.snapCount = s.snapCount) (fun i hi t kept => ?_) ⟨rfl, rfl⟩⟩
  obtain ⟨-, -, oldest, count⟩ := State.history_after_of_ne (s := t) (ne_of_mem_of_not_mem hi noPulse)
    (ne_of_mem_of_not_mem hi noInit)
  rwa [oldest, count]

/-- The timestamps recorded, one operation at a time. -/
theorem pulseStamps_cons (i : Instr) (is : List Instr) (s : State) :
    pulseStamps (i :: is) s = (if i = .pulse then [s.cnt] else []) ++ pulseStamps is (s.after i) := by
  rw [pulseStamps, exec_eq_next]

/-- A value appended after the oldest is dropped, or dropped with the oldest after it is appended. -/
theorem drop_one_append_drop {xs : List Word} (c : Word) (ys : List Word) (nonempty : 1 ≤ xs.length) :
    ((xs.drop 1 ++ [c]) ++ ys).drop ys.length = (xs ++ ([c] ++ ys)).drop ([c] ++ ys).length := by
  rw [List.length_append, List.length_singleton, ← List.drop_drop, List.drop_append_of_le_length nonempty,
    List.append_assoc]

/-- The FIFO law: each PULSE drops the oldest slot of the view and appends its timestamp, and no other operation
touches the view (10_state.md section 3). -/
theorem State.view_afterAll {s : State} {ops : List Instr} (histSize : s.hist.length = s.cfg.n)
    (headRange : s.head < s.cfg.n) (noInit : .histInit ∉ ops) :
    (s.afterAll ops).view = (s.view ++ pulseStamps ops s).drop (pulseStamps ops s).length := by
  induction ops generalizing s with
  | nil => simp [pulseStamps]
  | cons i is ih =>
    obtain ⟨notInit, noInitAfter⟩ := List.ne_and_not_mem_of_not_mem_cons noInit
    by_cases pulse : i = .pulse
    · have histSize' : (s.after i).hist.length = (s.after i).cfg.n := by
        rw [after_cfg, pulse]
        exact (histWrite_length _ _ _).trans histSize
      have headRange' : (s.after i).head < (s.after i).cfg.n := by
        rw [after_cfg, pulse]
        exact Nat.mod_lt _ (Nat.zero_lt_of_lt headRange)
      have nonempty : 1 ≤ s.view.length := by
        rw [view_length]
        omega
      rw [afterAll_cons, ih histSize' headRange' noInitAfter, pulseStamps_cons, if_pos pulse, pulse,
        view_after_pulse histSize headRange, drop_one_append_drop _ _ nonempty]
    · obtain ⟨hist, head, -⟩ := history_after_of_ne (s := s) pulse (Ne.symm notInit)
      have sameView : (s.after i).view = s.view := by rw [view, view, after_cfg, hist, head]
      rw [afterAll_cons, ih (by rw [hist, after_cfg, histSize]) (by rwa [head, after_cfg]) noInitAfter, sameView,
        pulseStamps_cons, if_neg pulse, List.nil_append]

/-- Settles O31, by the view after a list of operations. -/
theorem fifoLaw : Obligations.FifoLaw := by
  unfold Obligations.FifoLaw
  exact fun s ops histSize headRange noInit => ⟨_, runOps_eq_next ops s, State.view_afterAll histSize headRange noInit⟩

end Sys2Proof.Machine
end

section
/-! PROOFS. The stored window and the rate (42_rate.md; 10_state.md section 4). -/

namespace Sys2Proof.Machine

/-- Everything a scan can answer whose newest slot is the current timestamp: no window, or a fresh slot before the
newest, so that at least two slots are counted (R111, R112). -/
theorem window_of_newest (bound c : Word) (older : List Word) :
    window bound c (older ++ [c]) = (0#32, 0#32) ∨
    ∃ t k, window bound c (older ++ [c]) = (t, BitVec.ofNat 32 k) ∧ fresh bound c t = true ∧
      2 ≤ k ∧ k ≤ older.length + 1 := by
  obtain ⟨-, none⟩ | ⟨before, t, rest, split, -, hit, answer⟩ := window_cases bound c (older ++ [c])
  · exact .inl none
  · refine .inr ⟨t, _, answer, hit, ?_, ?_⟩
    · obtain ⟨-, notNewest, -⟩ := (fresh_iff bound c t).1 hit
      cases rest with
      | nil => exact absurd (List.append_inj_right' split rfl).symm (by simpa using notNewest)
      | cons u rest => exact Nat.le_add_left 2 rest.length
    · have size := congrArg List.length split
      simp only [List.length_append, List.length_cons, List.length_nil] at size
      omega

/-- A number in range is the value of its word (R8). -/
theorem toNat_ofNat_of_lt {k : Nat} (h : k < 2 ^ 32) : (BitVec.ofNat 32 k).toNat = k := by
  rw [BitVec.toNat_ofNat, Nat.mod_eq_of_lt h]

/-- Settles O36. A slot within the bound 0 is the current timestamp, which is never fresh; and a window before the
newest slot counts two slots at least. -/
theorem windowExtremeCases : Obligations.WindowExtremeCases := by
  unfold Obligations.WindowExtremeCases
  refine ⟨fun c hs => ?_, fun bound c older range => ?_⟩
  · obtain ⟨-, none⟩ | ⟨-, t, -, -, -, hit, -⟩ := window_cases 0#32 c hs
    · exact none
    · obtain ⟨-, notNewest, age⟩ := (fresh_iff _ _ _).1 hit
      have noTime : c - t = 0#32 := BitVec.le_zero_iff.1 age
      exact absurd (sub_eq_zero.1 noTime).symm notNewest
  · obtain none | ⟨t, k, answer, -, atLeastTwo, atMost⟩ := window_of_newest bound c older
    · rw [none]
      decide
    · intro one
      rw [answer] at one
      have count := congrArg BitVec.toNat one
      rw [toNat_ofNat_of_lt (by omega)] at count
      exact absurd count (Nat.ne_of_gt atLeastTwo)

/-- The stored snapshot in a state of the invariant: no window, or an oldest time fresh at the newest slot and a count
of at least two slots (R104). -/
theorem State.Inv.snapshot_cases {s : State} (inv : s.Inv) :
    (s.snapOldest = 0#32 ∧ s.snapCount = 0#32) ∨
    (fresh s.cfg.maxStaleness s.newest s.snapOldest = true ∧ 2 ≤ s.snapCount.toNat ∧ s.snapCount.toNat ≤ s.cfg.n) := by
  obtain ⟨-, slotRange, -⟩ := s.cfg.wf_iff.1 inv.config
  obtain ⟨older, size, view⟩ := State.view_eq_append_newest (Nat.zero_lt_of_lt inv.headRange)
  have snapshot := inv.snapshot
  rw [view] at snapshot
  obtain none | ⟨t, k, answer, hit, atLeastTwo, atMost⟩ := window_of_newest s.cfg.maxStaleness s.newest older
  · exact .inl (Prod.mk.inj (snapshot.trans none))
  · obtain ⟨oldest, count⟩ := Prod.mk.inj (snapshot.trans answer)
    rw [oldest, count, toNat_ofNat_of_lt (by omega)]
    exact .inr ⟨hit, atLeastTwo, by omega⟩

/-- Settles O33, by whether a window is stored: with one, the oldest time is fresh and so not 0. -/
theorem storedSnapshotBounds : Obligations.StoredSnapshotBounds := by
  unfold Obligations.StoredSnapshotBounds
  intro s inv
  obtain ⟨oldest, count⟩ | ⟨hit, atLeastTwo, atMost⟩ := inv.snapshot_cases
  · rw [oldest, count]
    exact ⟨Nat.zero_le _, by decide, by decide⟩
  · obtain ⟨notSentinel, -⟩ := (fresh_iff _ _ _).1 hit
    refine ⟨atMost, fun one => ?_, fun zero => ?_, fun zero => absurd zero notSentinel⟩
    · rw [one] at atLeastTwo
      exact absurd atLeastTwo (by decide)
    · rw [zero] at atLeastTwo
      exact absurd atLeastTwo (by decide)

/-- Settles O38: with the oldest time 0 the difference is the current time, and both conditions make the rate 0
(R114). -/
theorem noWindowGivesRateZero : Obligations.NoWindowGivesRateZero := by
  unfold Obligations.NoWindowGivesRateZero
  refine fun now oldest count => ⟨if_pos (.inl ?_), if_pos (.inr rfl)⟩
  exact BitVec.sub_zero now

/-- The rate of a window with elapsed time: the quotient, saturated (R114, R116). -/
theorem rate_toNat_of_elapsed {now oldest count : Word} (window : oldest ≠ 0#32) (elapsed : now ≠ oldest)
    (counted : count ≠ 0#32) :
    (rate now oldest count).toNat = min (60000 * count.toNat / (now - oldest).toNat) (2 ^ 32 - 1) := by
  have notNow : (now - oldest).toNat ≠ now.toNat := fun same => window (sub_eq_self.1 (BitVec.toNat_inj.1 same))
  have notZero : (now - oldest).toNat ≠ 0 := fun zero =>
    elapsed (sub_eq_zero.1 (BitVec.eq_of_toNat_eq zero))
  have countNotZero : count.toNat ≠ 0 := fun zero => counted (BitVec.eq_of_toNat_eq zero)
  rw [rate_eq_ofNat, sub32, if_neg (not_or.2 ⟨notNow, countNotZero⟩), if_neg notZero,
    toNat_ofNat_of_lt (Nat.lt_of_le_of_lt (Nat.min_le_right _ _) (by decide))]

/-- Settles O39: the quotient of such a count is below the saturation, whatever the elapsed time. -/
theorem rateIsExactUpToCount71582 : Obligations.RateIsExactUpToCount71582 := by
  unfold Obligations.RateIsExactUpToCount71582
  intro now oldest count window elapsed counted bound
  have product : 60000 * count.toNat ≤ 2 ^ 32 - 1 := by omega
  rw [rate_toNat_of_elapsed window elapsed counted, Nat.min_eq_left ((Nat.div_le_self _ _).trans product)]

/-- Settles O40: the invariant after the PULSE says that the oldest time of a window is fresh at the newest slot, and
that slot is the counter. -/
theorem windowOfAPulseHasElapsedTime : Obligations.WindowOfAPulseHasElapsedTime := by
  unfold Obligations.WindowOfAPulseHasElapsedTime
  intro s inv
  refine ⟨_, exec_eq_next .pulse s, fun counted => ?_⟩
  have newest : (s.after .pulse).newest = (s.after .pulse).cnt :=
    State.newest_after_pulse ((Memory.wf_iff _ _).1 inv.histSize) inv.headRange
  obtain ⟨-, none⟩ | ⟨hit, -⟩ := inv.after_pulse.snapshot_cases
  · exact absurd none counted
  · rw [newest] at hit
    obtain ⟨notSentinel, notNow, age⟩ := (fresh_iff _ _ _).1 hit
    exact ⟨fun noTime => notNow (sub_eq_zero.1 noTime).symm, age,
      rate_toNat_of_elapsed notSentinel notNow.symm counted⟩

/-- Settles O41: the three operations one after another, each reading what the one before it answered. -/
theorem rpmNowReadsSnapshotThenClock : Obligations.RpmNowReadsSnapshotThenClock := by
  unfold Obligations.RpmNowReadsSnapshotThenClock
  intro s
  simp only [rpmNow, andThen, exec_rdSnap, exec_clkNow, exec_calcRpm, State.lastResponse_respond, State.respond_cnt]
  simp only [State.respond, List.append_assoc, List.cons_append, List.nil_append]

end Sys2Proof.Machine
end

section
/-! PROOFS. The events of the serializer's operations, and the attached chain (43_shift_register.md sections 4 and 5;
70_reset_and_hazards.md section 3). -/

namespace Sys2Proof.Machine

section
variable {cfg : Config}

theorem length_flatMap_shiftEvents (bs : List Bool) : (bs.flatMap (shiftEvents cfg)).length = 7 * bs.length := by
  induction bs with
  | nil => rfl
  | cons b bs ih =>
    have seven : (shiftEvents cfg b).length = 7 := rfl
    rw [List.flatMap_cons, List.length_append, ih, seven, List.length_cons]
    omega

/-- Each bit has one rising clock edge (R122). -/
theorem count_sck_flatMap_shiftEvents (bs : List Bool) :
    (bs.flatMap (shiftEvents cfg)).count (.set .sck true) = bs.length := by
  induction bs with
  | nil => rfl
  | cons b bs ih =>
    have one : (shiftEvents cfg b).count (.set .sck true) = 1 := by simp [shiftEvents]
    rw [List.flatMap_cons, List.count_append, ih, one, List.length_cons, Nat.add_comm]

/-- No bit moves the latch line (R122). -/
theorem lat_not_mem_flatMap_shiftEvents (bs : List Bool) (v : Bool) :
    .set .lat v ∉ bs.flatMap (shiftEvents cfg) := by
  simp [shiftEvents]

theorem count_lat_flatMap_shiftEvents (bs : List Bool) (v : Bool) :
    (bs.flatMap (shiftEvents cfg)).count (.set .lat v) = 0 :=
  List.count_eq_zero.2 (lat_not_mem_flatMap_shiftEvents bs v)

/-- A latch pulse has one falling and one rising edge (R123). -/
theorem count_lat_latchEvents (v : Bool) : (latchEvents cfg).count (.set .lat v) = 1 := by
  cases v <;> simp [latchEvents]

/-- The events of L shifts from the count `k`, in the order of the bits: the latch pulse comes after the shift at
which the count reaches L (R126). `State.shiftAll_eq_shiftAllEvents` ties them to the model. -/
def shiftAllEvents (cfg : Config) (k : Nat) (bs : List Bool) : List PinEvent :=
  (bs.take (cfg.l - k)).flatMap (shiftEvents cfg) ++ latchEvents cfg ++
    (bs.drop (cfg.l - k)).flatMap (shiftEvents cfg)

/-- L shifts make one latch pulse, wherever the count stood. -/
theorem count_lat_shiftAllEvents (k : Nat) (bs : List Bool) (v : Bool) :
    (shiftAllEvents cfg k bs).count (.set .lat v) = 1 := by
  rw [shiftAllEvents, List.count_append, List.count_append, count_lat_flatMap_shiftEvents,
    count_lat_flatMap_shiftEvents, count_lat_latchEvents]

/-- From the count 0 the latch pulse comes last. -/
theorem shiftAllEvents_zero {bs : List Bool} (size : bs.length = cfg.l) :
    shiftAllEvents cfg 0 bs = bs.flatMap (shiftEvents cfg) ++ latchEvents cfg := by
  rw [shiftAllEvents, Nat.sub_zero, ← size, List.take_length, List.drop_length, List.flatMap_nil, List.append_nil]

end

theorem State.shiftAll_eq_shiftAllEvents {s : State} {bs : List Bool} (size : bs.length = s.cfg.l)
    (shiftedRange : s.shifted < s.cfg.l) :
    s.shiftAll bs = { s with
      ser := false, sck := false, lat := true, isLatched := decide (s.shifted = 0),
      trace := s.trace ++ shiftAllEvents s.cfg s.shifted bs } :=
  State.shiftAll_of_length size shiftedRange

/-- SR_SET of an array of L elements, whole, from any count in range (R126). -/
theorem State.after_srSet_of_length {s : State} {bits : List Bool} (size : bits.length = s.cfg.l)
    (shiftedRange : s.shifted < s.cfg.l) :
    s.after (.srSet bits) = { s with
      ser := false, sck := false, lat := true, isLatched := decide (s.shifted = 0), mirror := bits,
      trace := s.trace ++ shiftAllEvents s.cfg s.shifted bits.reverse,
      responses := s.responses ++ [⟨0#32, 0#32, false⟩] } := by
  have reverseSize : bits.reverse.length = s.cfg.l := List.length_reverse.trans size
  rw [after_srSet, operandBits_of_length size, shiftAll_eq_shiftAllEvents reverseSize shiftedRange, setMirror, respond]

/-- Settles O47: the trace of an aligned SR_SET, and its events counted bit by bit. -/
theorem alignedSrSetTrace : Obligations.AlignedSrSetTrace := by
  unfold Obligations.AlignedSrSetTrace
  intro s bits size nonempty aligned
  have reverseSize : bits.reverse.length = s.cfg.l := List.length_reverse.trans size
  have trace : (s.after (.srSet bits)).trace =
      s.trace ++ (bits.reverse.flatMap (shiftEvents s.cfg) ++ latchEvents s.cfg) := by
    rw [State.after_srSet_of_length size (by rwa [aligned]), aligned, shiftAllEvents_zero reverseSize]
  refine ⟨_, exec_eq_next _ s, trace, ?_, ?_, count_lat_flatMap_shiftEvents _ _⟩
  · have three : (latchEvents s.cfg).length = 3 := rfl
    rw [trace, List.length_append, List.length_append, length_flatMap_shiftEvents, reverseSize, three]
    omega
  · rw [count_sck_flatMap_shiftEvents, reverseSize]

/-- A write of the mirror and of the responses, which no shift reads. -/
def State.setMirrorResponses (s : State) (m : List Bool) (rs : List Response) : State :=
  { s with mirror := m, responses := rs }

theorem State.shiftAll_setMirrorResponses (s : State) (m : List Bool) (rs : List Response) (bs : List Bool) :
    (s.setMirrorResponses m rs).shiftAll bs = (s.shiftAll bs).setMirrorResponses m rs := by
  induction bs generalizing s with
  | nil => rfl
  | cons b bs ih =>
    have one : ((s.setMirrorResponses m rs).shift1 b).1 = (s.shift1 b).1.setMirrorResponses m rs := by
      rw [shift1_eq, shift1_eq]
      rfl
    rw [shiftAll, shiftAll, one, ih]

/-- SR_SHIFTs with any UM make the shifts of their bits; besides, they write the mirror and the responses only. -/
theorem State.afterAll_srShift (s : State) (ops : List (Bool × Bool)) :
    ∃ m rs, s.afterAll (ops.map fun o => .srShift o.1 o.2) =
      (s.shiftAll (ops.map Prod.fst)).setMirrorResponses m rs := by
  induction ops generalizing s with
  | nil => exact ⟨s.mirror, s.responses, rfl⟩
  | cons o ops ih =>
    obtain ⟨m, rs, rest⟩ := ih (s.after (.srShift o.1 o.2))
    refine ⟨m, rs, ?_⟩
    obtain ⟨m', rs', first⟩ : ∃ m' rs', s.after (.srShift o.1 o.2) = (s.shift1 o.1).1.setMirrorResponses m' rs' :=
      ⟨_, _, after_srShift s o.1 o.2⟩
    rw [List.map_cons, List.map_cons, afterAll_cons, rest, first, shiftAll_setMirrorResponses, shiftAll]
    rfl

/-- Settles O46: the SR_SHIFTs make L shifts, and these one latch pulse. -/
theorem oneLatchInEveryLShifts : Obligations.OneLatchInEveryLShifts := by
  unfold Obligations.OneLatchInEveryLShifts
  intro s ops shiftedRange size
  obtain ⟨m, rs, shifts⟩ := s.afterAll_srShift ops
  rw [State.shiftAll_eq_shiftAllEvents ((List.length_map _).trans size) shiftedRange] at shifts
  exact ⟨_, shiftAllEvents s.cfg s.shifted (ops.map Prod.fst), (runOps_eq_next _ s).trans (congrArg _ shifts), rfl,
    count_lat_shiftAllEvents _ _ _, count_lat_shiftAllEvents _ _ _, rfl⟩

/-- A run of bits, with the clock low before it: the stage takes the bits at the front, the last one foremost, and
keeps its length; the outputs stay (R131). -/
theorem Chain.run_flatMap_shiftEvents {c : Chain} (cfg : Config) (bs : List Bool) (low : c.sck = false) :
    (c.run (bs.flatMap (shiftEvents cfg))).stage = (bs.reverse ++ c.stage).take c.stage.length ∧
    (c.run (bs.flatMap (shiftEvents cfg))).out = c.out ∧ (c.run (bs.flatMap (shiftEvents cfg))).sck = false := by
  induction bs generalizing c with
  | nil => simp [low]
  | cons b bs ih =>
    have front : (b :: c.stage).dropLast = (b :: c.stage).take c.stage.length := by
      rw [List.dropLast_eq_take, List.length_cons, Nat.add_sub_cancel]
    rw [List.flatMap_cons, run_append, run_shiftEvents cfg b low]
    obtain ⟨stage, out, sck⟩ := ih (c := { c with stage := (b :: c.stage).dropLast, ser := false, sck := false }) rfl
    refine ⟨stage.trans ?_, out, sck⟩
    rw [front]
    simp [List.take_append, List.take_take]

/-- L shifts of an array, last element first, from the count `k`: at the latch pulse the stage holds the elements from
`k` on before what the first `k` stages held, and at the end the array (R131). -/
theorem Chain.run_shiftAllEvents {c : Chain} {cfg : Config} {bits : List Bool} {k : Nat} (size : bits.length = cfg.l)
    (range : k < cfg.l) (low : c.sck = false) (stageSize : c.stage.length = cfg.l) :
    (c.run (shiftAllEvents cfg k bits.reverse)).out = bits.drop k ++ c.stage.take k ∧
    (c.run (shiftAllEvents cfg k bits.reverse)).stage = bits := by
  have untilLatch : bits.length - (cfg.l - k) = k := by omega
  have front : bits.reverse.take (cfg.l - k) = (bits.drop k).reverse := by rw [List.take_reverse, untilLatch]
  have back : bits.reverse.drop (cfg.l - k) = (bits.take k).reverse := by rw [List.drop_reverse, untilLatch]
  rw [shiftAllEvents, run_append, run_append, run_latchEvents, front, back]
  obtain ⟨stageAtLatch, -, lowAtLatch⟩ := run_flatMap_shiftEvents (c := c) cfg (bits.drop k).reverse low
  generalize c.run ((bits.drop k).reverse.flatMap (shiftEvents cfg)) = atLatch at *
  have torn : atLatch.stage = bits.drop k ++ c.stage.take k := by
    rw [stageAtLatch, List.reverse_reverse, stageSize, List.take_append, List.length_drop, size,
      Nat.sub_sub_self range.le, List.take_of_length_le (by rw [List.length_drop]; omega)]
  obtain ⟨stage, out, -⟩ := run_flatMap_shiftEvents (c := { atLatch with out := atLatch.stage, lat := true })
    cfg (bits.take k).reverse lowAtLatch
  refine ⟨out.trans torn, stage.trans ?_⟩
  have tornSize : (bits.drop k ++ c.stage.take k).length = bits.length := by
    rw [List.length_append, List.length_drop, List.length_take, stageSize]
    omega
  rw [torn, List.reverse_reverse, tornSize, ← List.append_assoc, List.take_append_drop, List.take_left]

/-- Events without a rising latch edge leave the outputs as they are (R131). -/
theorem Chain.run_out_of_not_mem {c : Chain} {es : List PinEvent} (h : .set .lat true ∉ es) :
    (c.run es).out = c.out := by
  induction es generalizing c with
  | nil => rfl
  | cons e es ih =>
    obtain ⟨notRise, noRiseAfter⟩ := List.ne_and_not_mem_of_not_mem_cons h
    rw [run_cons, ih noRiseAfter]
    cases e with
    | wait => rfl
    | set p v =>
      cases p with
      | ser => rfl
      | sck =>
        rw [see, capture]
        split
        · rfl
        · rfl
      | lat =>
        cases v with
        | false => rfl
        | true => exact absurd rfl notRise

/-- Settles O48: an aligned SR_SET has the latch pulse last, at which the stage holds the array; the events before
the last one hold no rising latch edge. -/
theorem alignedSrSetShowsTheArray : Obligations.AlignedSrSetShowsTheArray := by
  unfold Obligations.AlignedSrSetShowsTheArray
  intro s bits c size nonempty aligned sck lat attached
  obtain ⟨-, chainSck, -, stageSize, -⟩ := attached
  have shiftedRange : s.shifted < s.cfg.l := by rwa [aligned]
  have reverseSize : bits.reverse.length = s.cfg.l := List.length_reverse.trans size
  obtain ⟨out, stage⟩ := Chain.run_shiftAllEvents size nonempty (chainSck.trans sck) stageSize
  rw [List.drop_zero, List.take_zero, List.append_nil] at out
  refine ⟨_, shiftAllEvents s.cfg 0 bits.reverse, exec_eq_next _ s, ?_, ?_, out, stage, fun k hk => ?_⟩
  · rw [State.after_srSet_of_length size shiftedRange, aligned]
  · rw [State.after_srSet_of_length size shiftedRange]
  · refine Chain.run_out_of_not_mem fun rise => ?_
    have lastApart : shiftAllEvents s.cfg 0 bits.reverse =
        (bits.reverse.flatMap (shiftEvents s.cfg) ++ [.set .lat false, .wait s.cfg.tLatMin]) ++ [.set .lat true] := by
      rw [shiftAllEvents_zero reverseSize, latchEvents, List.append_assoc]
      rfl
    rw [lastApart, List.length_append, List.length_singleton] at hk
    rw [lastApart, List.take_append_of_le_length (Nat.le_of_lt_succ hk)] at rise
    obtain shifts | latch := List.mem_append.1 (List.mem_of_mem_take rise)
    · exact lat_not_mem_flatMap_shiftEvents _ _ shifts
    · simp at latch

/-- Settles O49: the latch pulse falls where the stage holds the torn frame, and the shifts after it leave the outputs
as they are. -/
theorem misalignedSrSetShowsATornFrame : Obligations.MisalignedSrSetShowsATornFrame := by
  unfold Obligations.MisalignedSrSetShowsATornFrame
  intro s bits c size misaligned shiftedRange sck lat attached
  obtain ⟨-, chainSck, -, stageSize, -⟩ := attached
  obtain ⟨out, stage⟩ := Chain.run_shiftAllEvents size shiftedRange (chainSck.trans sck) stageSize
  refine ⟨_, shiftAllEvents s.cfg s.shifted bits.reverse, exec_eq_next _ s, ?_, ?_, ?_, ?_, stage, out⟩
  all_goals rw [State.after_srSet_of_length size shiftedRange]
  exact decide_eq_false misaligned.ne'

/-- Settles O50. The shift moves the stage as `rotIn` moves the mirror: without a latch both are rotated, with one the
stage alone. -/
theorem mirrorTracksTheStage : Obligations.MirrorTracksTheStage := by
  unfold Obligations.MirrorTracksTheStage
  intro s bit c sck lat attached tracked
  obtain ⟨-, chainSck, -, stageSize, -⟩ := attached
  have shifted := Chain.run_shiftEvents s.cfg bit (chainSck.trans sck)
  by_cases latch : s.shifted + 1 = s.cfg.l
  · refine ⟨_, shiftEvents s.cfg bit ++ latchEvents s.cfg, exec_srShift bit true s, ?_, absurd latch, fun _ => ?_⟩
    · rw [State.shift1_of_eq bit latch]
      rfl
    · rw [Chain.run_append, Chain.run_latchEvents, shifted, State.shift1_of_eq bit latch]
      obtain ⟨-, -, moved⟩ := rotationInsertsAtTheFront c.stage bit
      refine ⟨rfl, rfl, fun j hj => ?_⟩
      exact (congrArg (·[j]?) tracked).trans (moved (j + 1) (Nat.le_add_left 1 j) (by rwa [stageSize])).symm
  · refine ⟨_, shiftEvents s.cfg bit, exec_srShift bit true s, ?_, fun _ => ?_, fun latch' => absurd latch' latch⟩
    · rw [State.shift1_of_ne bit latch]
      rfl
    · rw [shifted, State.shift1_of_ne bit latch]
      exact ⟨congrArg (rotIn · bit) tracked, rfl⟩

/-- Settles O51: the one latch pulse copies the stage. -/
theorem srLatchShowsTheStage : Obligations.SrLatchShowsTheStage := by
  unfold Obligations.SrLatchShowsTheStage
  intro s c _
  refine ⟨_, latchEvents s.cfg, exec_srLatch s, ?_, ?_⟩
  · rw [State.latchPulse_eq]
    rfl
  · rw [Chain.run_latchEvents, State.latchPulse_eq]
    exact ⟨rfl, rfl, rfl⟩

end Sys2Proof.Machine
end

section
/-! PROOFS. The responses (30_encoding.md sections 2 and 4, R76). -/

namespace Sys2Proof.Machine

/-- A serializer operation answers with zeros (R76). -/
theorem State.responses_after_serializer {i : Instr} (hi : i.isSerializer = true) (s : State) :
    (s.after i).responses = s.responses ++ [⟨0#32, 0#32, false⟩] := by
  obtain ⟨u, es, hs, -⟩ := State.after_serializer hi (sameSerializerSide_refl s)
  rw [hs, State.respond_responses, State.writeSerializer]

/-- The response word holds its three fields side by side (R76). -/
theorem Response.word_fields (r : Response) :
    r.word.extractLsb' 0 32 = r.r0 ∧ r.word.extractLsb' 32 32 = r.r1 ∧ r.word.getLsbD 64 = r.err := by
  refine ⟨?_, ?_, ?_⟩
  · rw [Response.word, BitVec.extractLsb'_append_eq_right]
  · refine BitVec.eq_of_getLsbD_eq fun j hj => ?_
    rw [Response.word, BitVec.getLsbD_extractLsb', BitVec.getLsbD_append, BitVec.getLsbD_append]
    simp [hj]
  · rw [Response.word, BitVec.getLsbD_append, BitVec.getLsbD_append]
    simp

/-- Settles O52: the responses of each operation, of a refused command, and the fields of the response word. -/
theorem oneResponsePerCommand : Obligations.OneResponsePerCommand := by
  unfold Obligations.OneResponsePerCommand
  refine ⟨fun s i => ⟨_, exec_eq_next i s, ?_⟩, fun s p op reserved => ?_, Response.word_fields⟩
  · cases i with
    | tick | pulse => exact (State.responses_after_event (by simp) s).trans (List.append_nil _).symm
    | srSet | srShift | srLatch => exact State.responses_after_serializer rfl s
    | clkInit | clkNow | histInit | rdSnap | calcRpm => rfl
  · have opcode : (16 * p + op.toNat) % 16 = op.toNat := opcode_under_payload p op.isLt
    refine ⟨_, reservedOpcodeIsAnsweredWithErr _ _ _ rfl ?_, rfl⟩
    rw [opcode]
    exact reserved.imp_left (congrArg BitVec.toNat)

end Sys2Proof.Machine
end
